-- ==== Sys2Proof/Word.lean ====
section
/-!
DEFINITION. The word types of the core: spec/00_scope.md R7, R9, R10. Every value is unsigned and
bit 0 is the least significant bit, which is what `BitVec` gives.
-/

namespace Sys2Proof

/-- A 4-bit field: a register number X or Y, or the height N (R9, R12). -/
abbrev Nibble := BitVec 4

/-- A byte: a general register, a timer, a memory cell, the immediate NN (R7, R12). -/
abbrev Byte := BitVec 8

/-- The 12-bit address field NNN (R12). -/
abbrev Addr12 := BitVec 12

/-- A 16-bit value: an instruction word, PC, I, a stack entry (R7, R9). -/
abbrev Word := BitVec 16

end Sys2Proof
end

