-- ==== Sys2Proof/Syntax.lean ====
section
/-!
DEFINITION. The 34 instructions of spec/opcode_table.json (spec/30_encoding.md R85), one constructor
per row, in the table's order. An operand's type has exactly the values its field can hold (R71, R73,
R74), so a term with an operand out of range cannot be written. `shr` and `shl` keep the Y field that
they ignore (R83), so that no bit of a word is dropped.
-/

namespace Sys2Proof

/-- One constructor per row of the opcode table; the docstring gives the row's pattern and mnemonic. -/
inductive Instr where
  /-- `00E0` CLS, R120. -/
  | cls
  /-- `00EE` RET, R131. -/
  | ret
  /-- `1NNN` JP NNN, R132. -/
  | jp (nnn : Addr12)
  /-- `2NNN` CALL NNN, R133. -/
  | call (nnn : Addr12)
  /-- `3XNN` SE VX, NN, R134. -/
  | seImm (x : Nibble) (nn : Byte)
  /-- `4XNN` SNE VX, NN, R135. -/
  | sneImm (x : Nibble) (nn : Byte)
  /-- `5XY0` SE VX, VY, R136. -/
  | seReg (x y : Nibble)
  /-- `6XNN` LD VX, NN, R150. -/
  | ldImm (x : Nibble) (nn : Byte)
  /-- `7XNN` ADD VX, NN, R151. -/
  | addImm (x : Nibble) (nn : Byte)
  /-- `8XY0` LD VX, VY, R152. -/
  | ldReg (x y : Nibble)
  /-- `8XY1` OR VX, VY, R153. -/
  | orReg (x y : Nibble)
  /-- `8XY2` AND VX, VY, R154. -/
  | andReg (x y : Nibble)
  /-- `8XY3` XOR VX, VY, R155. -/
  | xorReg (x y : Nibble)
  /-- `8XY4` ADD VX, VY, R156. -/
  | addReg (x y : Nibble)
  /-- `8XY5` SUB VX, VY, R157. -/
  | subReg (x y : Nibble)
  /-- `8XY6` SHR VX, R158; Y is ignored (R83). -/
  | shr (x y : Nibble)
  /-- `8XY7` SUBN VX, VY, R159. -/
  | subnReg (x y : Nibble)
  /-- `8XYE` SHL VX, R160; Y is ignored (R83). -/
  | shl (x y : Nibble)
  /-- `9XY0` SNE VX, VY, R137. -/
  | sneReg (x y : Nibble)
  /-- `ANNN` LD I, NNN, R170. -/
  | ldI (nnn : Addr12)
  /-- `BNNN` JP V0, NNN, R140. -/
  | jpV0 (nnn : Addr12)
  /-- `CXNN` RND VX, NN, R161. -/
  | rnd (x : Nibble) (nn : Byte)
  /-- `DXYN` DRW VX, VY, N, R121. -/
  | drw (x y n : Nibble)
  /-- `EX9E` SKP VX, R190. -/
  | skp (x : Nibble)
  /-- `EXA1` SKNP VX, R191. -/
  | sknp (x : Nibble)
  /-- `FX07` LD VX, DT, R192. -/
  | ldVxDt (x : Nibble)
  /-- `FX0A` LD VX, K, R193. -/
  | ldVxK (x : Nibble)
  /-- `FX15` LD DT, VX, R194. -/
  | ldDtVx (x : Nibble)
  /-- `FX18` LD ST, VX, R195. -/
  | ldStVx (x : Nibble)
  /-- `FX1E` ADD I, VX, R171. -/
  | addI (x : Nibble)
  /-- `FX29` LD F, VX, R172. -/
  | ldF (x : Nibble)
  /-- `FX33` LD B, VX, R173. -/
  | ldB (x : Nibble)
  /-- `FX55` LD [I], VX, R174. -/
  | storeRegs (x : Nibble)
  /-- `FX65` LD VX, [I], R175. -/
  | loadRegs (x : Nibble)
  deriving DecidableEq, Repr

end Sys2Proof
end

