-- ==== Sys2Proof/Config.lean ====
section
/-!
DEFINITION. What is fixed for the machine (spec/00_scope.md R7), the parameters it takes as arguments with
the defaults the spec writes its rules for (R8), and its one free value, the random byte of CXNN.
-/

namespace Sys2Proof

/-- `MEM_SIZE`, R7. -/
def Config.memSize : Nat := 4096

/-- `STACK_DEPTH`, R7. -/
def Config.stackDepth : Nat := 16

/-- `PROG_BASE`, R7: where Reset(P) copies the program image. -/
def Config.progBase : Nat := 0x200

/-- `PROG_MAX`, R7: the longest program image. -/
def Config.progMax : Nat := 3584

/-- `FONT_BASE`, R7. -/
def Config.fontBase : Nat := 0

/-- `FONT_GLYPH_BYTES`, R7. -/
def Config.fontGlyphBytes : Nat := 5

/-- `RESET_PC`, R7. -/
def Config.resetPc : Word := 0x200

/-- `INSN_BYTES`, R7, R70. -/
def Config.insnBytes : Word := 2

/-- Glyphs 0 to 7 of `FONT_ROM`, spec/70_reset_and_hazards.md R242. -/
def Config.fontLow : List Byte :=
  [0xF0, 0x90, 0x90, 0x90, 0xF0] ++ [0x20, 0x60, 0x20, 0x20, 0x70] ++
  [0xF0, 0x10, 0xF0, 0x80, 0xF0] ++ [0xF0, 0x10, 0xF0, 0x10, 0xF0] ++
  [0x90, 0x90, 0xF0, 0x10, 0x10] ++ [0xF0, 0x80, 0xF0, 0x10, 0xF0] ++
  [0xF0, 0x80, 0xF0, 0x90, 0xF0] ++ [0xF0, 0x10, 0x20, 0x40, 0x40]

/-- Glyphs 8 to F of `FONT_ROM`, spec/70_reset_and_hazards.md R242. -/
def Config.fontHigh : List Byte :=
  [0xF0, 0x90, 0xF0, 0x90, 0xF0] ++ [0xF0, 0x90, 0xF0, 0x10, 0xF0] ++
  [0xF0, 0x90, 0xF0, 0x90, 0x90] ++ [0xE0, 0x90, 0xE0, 0x90, 0xE0] ++
  [0xF0, 0x80, 0x80, 0x80, 0xF0] ++ [0xE0, 0x90, 0x90, 0x90, 0xE0] ++
  [0xF0, 0x80, 0xF0, 0x80, 0xF0] ++ [0xF0, 0x80, 0xF0, 0x80, 0x80]

/-- `FONT_ROM` at its default, the 80 bytes of R242. PRESUMED (log 4): the source lists no font bytes;
the default is the CHIP-8 family's. Unsafe for a claim that takes it as a premise and reads glyphs. -/
def Config.fontRom : Vector Byte 80 := ⟨(Config.fontLow ++ Config.fontHigh).toArray, rfl⟩

/-- The values of `P_CALL_LINK`, R8 and spec/42_control_flow.md R138. -/
inductive CallLink where
  /-- 2NNN pushes the fetch address A of the call (R133). -/
  | fetchAddr
  /-- 2NNN pushes A + 2 (R138). -/
  | advancedPc
  deriving DecidableEq, Repr

/-- The values of `P_VF_ORDER`, spec/93_implementation_defined.md U9. -/
inductive VfOrder where
  /-- Operands latched, flag written first, V[X] last. -/
  | dataLast
  /-- Operands latched, V[X] written first, flag last. -/
  | flagLast
  /-- The flag is written first and the data statement reads the registers again. -/
  | sequential
  deriving DecidableEq, Repr

/-- The parameters the core takes as arguments, R8; the random byte, which it takes anew at each step, is
no part of them (log 3). -/
structure Params where
  /-- `FONT_ROM`, R8 (a), R242. -/
  fontRom : Vector Byte 80
  /-- `P_CALL_LINK`, R8 (c), R138: what 2NNN pushes. -/
  callLink : CallLink
  /-- `P_SUB_EQ_FLAG`, R8 (d), U8: VF of 8XY5 and 8XY7 with equal operands. -/
  subEqFlag : Bool
  /-- `P_VF_ORDER`, R8 (d), U9: the order of VF writes when X or Y is 15. -/
  vfOrder : VfOrder
  deriving DecidableEq, Repr

/-- The parameters at the defaults of R8: the presumed font (log 4), and the spec's choices D2 (log 5),
D26 (log 6) and D3 (log 7). -/
def Config.defaults : Params :=
  { fontRom := Config.fontRom
    callLink := .fetchAddr
    subEqFlag := false
    vfOrder := .dataLast }

/-- FREE VALUE: the n-th byte of the random source that the host has not named (spec/10_state.md R36,
D16). It has no body, so a proof holds for every byte it could be. Log 3, safe. -/
opaque Config.rnd : Nat → Byte

end Sys2Proof
end

