-- ==== Sys2Proof/WellFormed.lean ====
section
/-!
DEFINITION. Checks on data that comes from outside the machine's types: a program image given to
Reset(P) (spec/70_reset_and_hazards.md R241) and a row of the opcode table (spec/30_encoding.md R75).
An instruction needs no check: its operand types admit every field value and no other (R71, R73, R74).
-/

namespace Sys2Proof

/-- Every term of `Instr` is well formed: X, Y, N, NN and NNN take every value of their widths (R73,
R74), and the types admit no other. -/
abbrev Instr.WellFormed (_ : Instr) : Prop := True

/-- R241: a program image must not be longer than `PROG_MAX` bytes. -/
abbrev ImageFits (image : List Byte) : Prop := image.length ≤ Config.progMax

/-- R75, R85: a row of the opcode map, a word `w` being the row's instruction when
`w &&& mask = value`. -/
structure OpcodeRow where
  /-- The row's number in R85, 1 to 34. -/
  number : Nat
  /-- The row's name, R86. -/
  pattern : String
  /-- The match column of R85. -/
  value : Word
  /-- The mask column of R85. -/
  mask : Word
  deriving DecidableEq, Repr

/-- A row some word can match: no bit of the match lies outside the mask. -/
abbrev OpcodeRow.WellFormed (r : OpcodeRow) : Prop := r.value &&& r.mask = r.value

/-- R85: the word is the row's instruction. -/
def OpcodeRow.hit (r : OpcodeRow) (w : Word) : Bool := w &&& r.mask == r.value

end Sys2Proof
end

