-- ==== Sys2Proof/Decode.lean ====
section
/-!
DEFINITION. The instruction decoder of spec/30_encoding.md (R70 to R87): a total function of the word
alone (R84), in the two levels of R75. After it the encoder, and the opcode map of R85.
-/

namespace Sys2Proof

/-- Why bytes are no instruction. -/
inductive DecodeError where
  /-- The word matches no pattern (R75): a step raises InvalidOpcode. -/
  | invalidOpcode (w : Word)
  /-- Fewer than the two bytes every instruction has (R70). -/
  | truncated
  deriving DecidableEq, Repr

/-- R71: the opcode family, w[15:12]. -/
def fieldF (w : Word) : Nibble := w.extractLsb' 12 4

/-- R71: the field X, w[11:8]. -/
def fieldX (w : Word) : Nibble := w.extractLsb' 8 4

/-- R71: the field Y, w[7:4]. -/
def fieldY (w : Word) : Nibble := w.extractLsb' 4 4

/-- R71: the field N, w[3:0]. -/
def fieldN (w : Word) : Nibble := w.extractLsb' 0 4

/-- R71: the field NN, w[7:0]. -/
def fieldNN (w : Word) : Byte := w.extractLsb' 0 8

/-- R71: the field NNN, w[11:0]. -/
def fieldNNN (w : Word) : Addr12 := w.extractLsb' 0 12

/-- R54: two consecutive bytes as a word, the byte at the lower address high. -/
def wordOfBytes (hi lo : Byte) : Word := hi ++ lo

/-- R76: family 0x0 has two valid words, fixed whole. -/
def decodeFamily0 (w : Word) : Option Instr :=
  if fieldNNN w = 0x0E0 then some .cls
  else if fieldNNN w = 0x0EE then some .ret
  else none

/-- R77: families 0x5 and 0x9 are valid with N = 0 only. -/
def decodeIfNZero (w : Word) (i : Instr) : Option Instr :=
  if fieldN w = 0x0 then some i
  else none

/-- R78: family 0x8 dispatches on N. -/
def decodeFamily8 (w : Word) : Option Instr :=
  if fieldN w = 0x0 then some (.ldReg (fieldX w) (fieldY w))
  else if fieldN w = 0x1 then some (.orReg (fieldX w) (fieldY w))
  else if fieldN w = 0x2 then some (.andReg (fieldX w) (fieldY w))
  else if fieldN w = 0x3 then some (.xorReg (fieldX w) (fieldY w))
  else if fieldN w = 0x4 then some (.addReg (fieldX w) (fieldY w))
  else if fieldN w = 0x5 then some (.subReg (fieldX w) (fieldY w))
  else if fieldN w = 0x6 then some (.shr (fieldX w) (fieldY w))
  else if fieldN w = 0x7 then some (.subnReg (fieldX w) (fieldY w))
  else if fieldN w = 0xE then some (.shl (fieldX w) (fieldY w))
  else none

/-- R79: family 0xE dispatches on NN. -/
def decodeFamilyE (w : Word) : Option Instr :=
  if fieldNN w = 0x9E then some (.skp (fieldX w))
  else if fieldNN w = 0xA1 then some (.sknp (fieldX w))
  else none

/-- R80: family 0xF dispatches on NN. -/
def decodeFamilyF (w : Word) : Option Instr :=
  if fieldNN w = 0x07 then some (.ldVxDt (fieldX w))
  else if fieldNN w = 0x0A then some (.ldVxK (fieldX w))
  else if fieldNN w = 0x15 then some (.ldDtVx (fieldX w))
  else if fieldNN w = 0x18 then some (.ldStVx (fieldX w))
  else if fieldNN w = 0x1E then some (.addI (fieldX w))
  else if fieldNN w = 0x29 then some (.ldF (fieldX w))
  else if fieldNN w = 0x33 then some (.ldB (fieldX w))
  else if fieldNN w = 0x55 then some (.storeRegs (fieldX w))
  else if fieldNN w = 0x65 then some (.loadRegs (fieldX w))
  else none

/-- R75, R81: the instruction of a word, by family; `none` for a word that matches no pattern. -/
def decodeWord? (w : Word) : Option Instr :=
  if fieldF w = 0x0 then decodeFamily0 w
  else if fieldF w = 0x1 then some (.jp (fieldNNN w))
  else if fieldF w = 0x2 then some (.call (fieldNNN w))
  else if fieldF w = 0x3 then some (.seImm (fieldX w) (fieldNN w))
  else if fieldF w = 0x4 then some (.sneImm (fieldX w) (fieldNN w))
  else if fieldF w = 0x5 then decodeIfNZero w (.seReg (fieldX w) (fieldY w))
  else if fieldF w = 0x6 then some (.ldImm (fieldX w) (fieldNN w))
  else if fieldF w = 0x7 then some (.addImm (fieldX w) (fieldNN w))
  else if fieldF w = 0x8 then decodeFamily8 w
  else if fieldF w = 0x9 then decodeIfNZero w (.sneReg (fieldX w) (fieldY w))
  else if fieldF w = 0xA then some (.ldI (fieldNNN w))
  else if fieldF w = 0xB then some (.jpV0 (fieldNNN w))
  else if fieldF w = 0xC then some (.rnd (fieldX w) (fieldNN w))
  else if fieldF w = 0xD then some (.drw (fieldX w) (fieldY w) (fieldN w))
  else if fieldF w = 0xE then decodeFamilyE w
  else if fieldF w = 0xF then decodeFamilyF w
  else none

/-- R84: the decoder, rejecting by name. -/
def decodeWord (w : Word) : Except DecodeError Instr :=
  match decodeWord? w with
  | some i => .ok i
  | none => .error (.invalidOpcode w)

/-- R70: an instruction is the first two bytes; the rest is handed back. -/
def decodeBytes : List Byte → Except DecodeError (Instr × List Byte)
  | hi :: lo :: rest =>
    match decodeWord (wordOfBytes hi lo) with
    | .ok i => .ok (i, rest)
    | .error e => .error e
  | _ => .error .truncated

/-- R72: the word of an instruction, format by format. -/
def encode : Instr → Word
  | .cls => 0x00E0
  | .ret => 0x00EE
  | .jp nnn => 0x1#4 ++ nnn
  | .call nnn => 0x2#4 ++ nnn
  | .seImm x nn => 0x3#4 ++ x ++ nn
  | .sneImm x nn => 0x4#4 ++ x ++ nn
  | .seReg x y => 0x5#4 ++ x ++ y ++ 0x0#4
  | .ldImm x nn => 0x6#4 ++ x ++ nn
  | .addImm x nn => 0x7#4 ++ x ++ nn
  | .ldReg x y => 0x8#4 ++ x ++ y ++ 0x0#4
  | .orReg x y => 0x8#4 ++ x ++ y ++ 0x1#4
  | .andReg x y => 0x8#4 ++ x ++ y ++ 0x2#4
  | .xorReg x y => 0x8#4 ++ x ++ y ++ 0x3#4
  | .addReg x y => 0x8#4 ++ x ++ y ++ 0x4#4
  | .subReg x y => 0x8#4 ++ x ++ y ++ 0x5#4
  | .shr x y => 0x8#4 ++ x ++ y ++ 0x6#4
  | .subnReg x y => 0x8#4 ++ x ++ y ++ 0x7#4
  | .shl x y => 0x8#4 ++ x ++ y ++ 0xE#4
  | .sneReg x y => 0x9#4 ++ x ++ y ++ 0x0#4
  | .ldI nnn => 0xA#4 ++ nnn
  | .jpV0 nnn => 0xB#4 ++ nnn
  | .rnd x nn => 0xC#4 ++ x ++ nn
  | .drw x y n => 0xD#4 ++ x ++ y ++ n
  | .skp x => 0xE#4 ++ x ++ 0x9E#8
  | .sknp x => 0xE#4 ++ x ++ 0xA1#8
  | .ldVxDt x => 0xF#4 ++ x ++ 0x07#8
  | .ldVxK x => 0xF#4 ++ x ++ 0x0A#8
  | .ldDtVx x => 0xF#4 ++ x ++ 0x15#8
  | .ldStVx x => 0xF#4 ++ x ++ 0x18#8
  | .addI x => 0xF#4 ++ x ++ 0x1E#8
  | .ldF x => 0xF#4 ++ x ++ 0x29#8
  | .ldB x => 0xF#4 ++ x ++ 0x33#8
  | .storeRegs x => 0xF#4 ++ x ++ 0x55#8
  | .loadRegs x => 0xF#4 ++ x ++ 0x65#8

/-- R54, R70: the two bytes of a word as they lie in memory, the high byte first. -/
def bytesOfWord (w : Word) : List Byte := [w.extractLsb' 8 8, w.extractLsb' 0 8]

/-- R54, R70: the bytes of an instruction as they lie in memory. -/
def encodeBytes (i : Instr) : List Byte := bytesOfWord (encode i)

/-- Rows 1 to 18 of the opcode map R85. -/
def opcodeRowsLow : List OpcodeRow :=
  [⟨1, "00E0", 0x00E0, 0xFFFF⟩, ⟨2, "00EE", 0x00EE, 0xFFFF⟩, ⟨3, "1NNN", 0x1000, 0xF000⟩,
   ⟨4, "2NNN", 0x2000, 0xF000⟩, ⟨5, "3XNN", 0x3000, 0xF000⟩, ⟨6, "4XNN", 0x4000, 0xF000⟩] ++
  [⟨7, "5XY0", 0x5000, 0xF00F⟩, ⟨8, "6XNN", 0x6000, 0xF000⟩, ⟨9, "7XNN", 0x7000, 0xF000⟩,
   ⟨10, "8XY0", 0x8000, 0xF00F⟩, ⟨11, "8XY1", 0x8001, 0xF00F⟩, ⟨12, "8XY2", 0x8002, 0xF00F⟩] ++
  [⟨13, "8XY3", 0x8003, 0xF00F⟩, ⟨14, "8XY4", 0x8004, 0xF00F⟩, ⟨15, "8XY5", 0x8005, 0xF00F⟩,
   ⟨16, "8XY6", 0x8006, 0xF00F⟩, ⟨17, "8XY7", 0x8007, 0xF00F⟩, ⟨18, "8XYE", 0x800E, 0xF00F⟩]

/-- Rows 19 to 34 of the opcode map R85. -/
def opcodeRowsHigh : List OpcodeRow :=
  [⟨19, "9XY0", 0x9000, 0xF00F⟩, ⟨20, "ANNN", 0xA000, 0xF000⟩, ⟨21, "BNNN", 0xB000, 0xF000⟩,
   ⟨22, "CXNN", 0xC000, 0xF000⟩, ⟨23, "DXYN", 0xD000, 0xF000⟩, ⟨24, "EX9E", 0xE09E, 0xF0FF⟩] ++
  [⟨25, "EXA1", 0xE0A1, 0xF0FF⟩, ⟨26, "FX07", 0xF007, 0xF0FF⟩, ⟨27, "FX0A", 0xF00A, 0xF0FF⟩,
   ⟨28, "FX15", 0xF015, 0xF0FF⟩, ⟨29, "FX18", 0xF018, 0xF0FF⟩, ⟨30, "FX1E", 0xF01E, 0xF0FF⟩] ++
  [⟨31, "FX29", 0xF029, 0xF0FF⟩, ⟨32, "FX33", 0xF033, 0xF0FF⟩, ⟨33, "FX55", 0xF055, 0xF0FF⟩,
   ⟨34, "FX65", 0xF065, 0xF0FF⟩]

/-- The opcode map R85, in the table's order. -/
def opcodeMap : List OpcodeRow := opcodeRowsLow ++ opcodeRowsHigh

/-- The number of an instruction's row in R85. -/
def Instr.rowNumber : Instr → Nat
  | .cls => 1
  | .ret => 2
  | .jp _ => 3
  | .call _ => 4
  | .seImm _ _ => 5
  | .sneImm _ _ => 6
  | .seReg _ _ => 7
  | .ldImm _ _ => 8
  | .addImm _ _ => 9
  | .ldReg _ _ => 10
  | .orReg _ _ => 11
  | .andReg _ _ => 12
  | .xorReg _ _ => 13
  | .addReg _ _ => 14
  | .subReg _ _ => 15
  | .shr _ _ => 16
  | .subnReg _ _ => 17
  | .shl _ _ => 18
  | .sneReg _ _ => 19
  | .ldI _ => 20
  | .jpV0 _ => 21
  | .rnd _ _ => 22
  | .drw _ _ _ => 23
  | .skp _ => 24
  | .sknp _ => 25
  | .ldVxDt _ => 26
  | .ldVxK _ => 27
  | .ldDtVx _ => 28
  | .ldStVx _ => 29
  | .addI _ => 30
  | .ldF _ => 31
  | .ldB _ => 32
  | .storeRegs _ => 33
  | .loadRegs _ => 34

/-- The decoder unit's outputs, R87; `op` is the row number, absent when `valid` is false. -/
structure DecoderOutputs where
  valid : Bool
  op : Option Nat
  x : Nibble
  y : Nibble
  n : Nibble
  nn : Byte
  nnn : Addr12
  deriving DecidableEq, Repr

/-- R87: the decoder unit's outputs on a word, the fields passed through unchanged. -/
def decoderUnit (w : Word) : DecoderOutputs :=
  { valid := (decodeWord? w).isSome
    op := (decodeWord? w).map Instr.rowNumber
    x := fieldX w
    y := fieldY w
    n := fieldN w
    nn := fieldNN w
    nnn := fieldNNN w }

/-- The instruction the decoder reads from a word given as a number, bit 0 least significant; the word
is laid out as memory holds it (R54) and the bits from `nbits` on are 0. -/
def decodeTableWord (nbits w : Nat) : Option Instr :=
  match decodeBytes (bytesOfWord (BitVec.ofNat 16 (w % 2 ^ nbits))) with
  | .ok (i, _) => some i
  | .error _ => none

end Sys2Proof
end

