-- ==== Sys2Proof/Machine/State.lean ====
section
/-!
DEFINITION. The state of the core as plain data (spec/10_state.md R20 to R40), the ways a step can stop,
and the state after reset (R40).
-/

namespace Sys2Proof.Machine

/-- What ends a run outside `State`. No step raises a fault: the typed faults of a step
(spec/60_exceptions.md R211) are latched in `State.fault` and the step answers a next state (log 1). -/
inductive Fault where
  /-- LoadTooLarge, code 8 (R211, spec/70_reset_and_hazards.md R241): raised by the host operation
  Reset(P) with an image longer than 3584 bytes. No valid state is left. Safe (log 12). -/
  | loadTooLarge
  deriving DecidableEq, Repr

/-- Why an instruction has no meaning. -/
inductive Refusal where
  /-- An arm of `exec` with no meaning yet. No arm raises it. Safe. -/
  | notModelled (mnemonic : String)
  deriving DecidableEq, Repr

/-- The faults a step can raise with the info each records (spec/60_exceptions.md R211). -/
inductive FaultCause where
  /-- Code 1: the word matches no pattern. -/
  | invalidOpcode (w a : Word)
  /-- Code 2: the fetch address is above 4094. -/
  | fetchOutOfBounds (a : Word)
  /-- Code 3: 00EE with SP = 0. -/
  | stackUnderflow
  /-- Code 4: 2NNN with SP = 16. -/
  | stackOverflow
  /-- Code 5: `[i, i + len)` reaches past memory. -/
  | memoryOutOfBounds (i : Word) (len : Nat)
  /-- Code 6: EX9E or EXA1 with VX > 15. -/
  | keyIndexOutOfRange (vx : Byte)
  /-- Code 7: FX1E with I + VX > 0xFFFF. -/
  | indexOverflow (i : Word) (vx : Byte)
  deriving DecidableEq, Repr

/-- The record `(code, A, w, info)` of R37; the cause holds the code and the info. -/
structure FaultRecord where
  /-- The fault and its info, R211. -/
  cause : FaultCause
  /-- The fetch address A of the faulting step. -/
  pc : Word
  /-- The fetched word, if one was fetched. -/
  word : Option Word
  deriving DecidableEq, Repr

/-- What a step returns to the host (spec/40_cycle.md R109). -/
inductive StepResult where
  /-- The step completed; `beep` is the output event of R108. -/
  | ok (beep : Bool)
  /-- The step faulted, or the core was faulted already. -/
  | fault (r : FaultRecord)
  deriving DecidableEq, Repr

/-- Memory: the bytes that differ from the reset image of R59 with no program, addresses strictly rising
(log 10). -/
abbrev Memory := List Host.Cell

/-- The framebuffer (R32): 32 rows of 64 pixels; the pixel in column x is bit x of its row (log 13). -/
abbrev Frame := Vector (BitVec 64) 32

/-- The core's state, R20 to R37, the parameters it was made with, and last the model's own fields. -/
structure State where
  /-- MEM, 4096 bytes (R35). -/
  mem : Memory
  /-- V0 to VF (R20); VF is V[15] (R21). -/
  v : Vector Byte 16
  /-- The index register I (R27). -/
  i : Word
  /-- The program counter (R24). -/
  pc : Word
  /-- The stack pointer, the number of valid entries, 0 to 16 (R29, log 8). -/
  sp : Fin 17
  /-- The call stack (R28). -/
  stk : Vector Word 16
  /-- The delay timer (R31). -/
  dt : Byte
  /-- The sound timer (R31). -/
  st : Byte
  /-- The framebuffer (R32). -/
  fb : Frame
  /-- The draw flag (R33). -/
  draw : Bool
  /-- The input latch; bit k is key k, 1 when pressed (R34). -/
  key : BitVec 16
  /-- The fault latch (R37). -/
  fault : Option FaultRecord
  /-- The arguments the core was made with, R8: no operation changes them (log 23). -/
  params : Params
  /-- The model's own: what the last step returned (R109); nothing reads it (log 2). -/
  result : Option StepResult
  /-- The model's own: the byte the host named on the rnd input for the coming step (R112, log 3). -/
  rndIn : Option Byte
  /-- The model's own: which free random byte comes next (log 3). -/
  draws : Nat
  deriving DecidableEq, Repr

/-- R40, R240: a core made with the parameters `p`, right after reset with nothing placed in the program
area. The spec gives every value but those of the model's own fields (log 2, log 3: DESIGN CHOICE). -/
def State.resetAt (p : Params) : State :=
  { mem := []
    v := Vector.replicate 16 0
    i := 0
    pc := Config.resetPc
    sp := 0
    stk := Vector.replicate 16 0
    dt := 0
    st := 0
    fb := Vector.replicate 32 0
    draw := false
    key := 0
    fault := none
    params := p
    result := none
    rndIn := none
    draws := 0 }

/-- R40: the machine right after reset, with the parameters at the defaults of R8 (log 23). -/
def State.reset : State := State.resetAt Config.defaults

end Sys2Proof.Machine
end

