-- ==== Sys2Proof/Machine/Ops.lean ====
section
/-!
DEFINITION. The named operations over memory, registers, the program counter, the stack, the timers and
the fault latch. Every meaning is written over these, and each special behaviour stands in one of them.
-/

namespace Sys2Proof.Machine

/-! ### Memory (spec/20_memory.md) -/

/-- R59: what an address the list does not name reads as, the reset image: the font table the core was
made with, else zero (log 10). -/
def Memory.resetByte (font : Vector Byte 80) (a : Nat) : Byte :=
  font.toList.getD (a - Config.fontBase) 0

/-- R50, R58: the byte at an address below 4096. -/
def Memory.peek (font : Vector Byte 80) : Memory → Nat → Byte
  | [], a => Memory.resetByte font a
  | (k, b) :: m, a => if a = k then b else Memory.peek font m a

/-- The list without an entry for the address. -/
def Memory.forget (m : Memory) (a : Nat) : Memory := m.filter fun c => c.1 != a

/-- The list with an entry put where its address belongs. -/
def Memory.place : Memory → Nat → Byte → Memory
  | [], a, b => [(a, b)]
  | (k, c) :: m, a, b => if a < k then (a, b) :: (k, c) :: m else (k, c) :: Memory.place m a b

/-- R58: write one byte, keeping the canonical form: no entry equals the reset image. -/
def Memory.poke (font : Vector Byte 80) (m : Memory) (a : Nat) (b : Byte) : Memory :=
  if b = Memory.resetByte font a then Memory.forget m a else Memory.place (Memory.forget m a) a b

/-- R55, R57: write bytes at consecutive addresses, the first at `a`. -/
def Memory.pokeAll (font : Vector Byte 80) : Memory → Nat → List Byte → Memory
  | m, _, [] => m
  | m, a, b :: bs => Memory.pokeAll font (Memory.poke font m a b) (a + 1) bs

/-- The canonical form: addresses strictly rising and below 4096 (R50), no entry equal to the reset
image. -/
abbrev Memory.wf (font : Vector Byte 80) (m : Memory) : Prop :=
  m.Pairwise (fun c d => c.1 < d.1) ∧
    ∀ c ∈ m, c.1 < Config.memSize ∧ c.2 ≠ Memory.resetByte font c.1

/-- R11: `MemRead(a, 1)`. -/
def State.peek (s : State) (a : Nat) : Byte := Memory.peek s.params.fontRom s.mem a

/-- R11, R55: `MemWrite` of bytes at consecutive addresses, the first at `a`. -/
def State.storeAt (s : State) (a : Nat) (bs : List Byte) : State :=
  { s with mem := Memory.pokeAll s.params.fontRom s.mem a bs }

/-- R52, R53: the byte range `[a, a + len)` lies in memory; the sum is exact. -/
def inMemory (a len : Nat) : Bool := decide (a + len ≤ Config.memSize)

/-! ### Registers (spec/10_state.md R20, R21, R27) -/

/-- R11, R20: `V[x]`. -/
def State.vreg (s : State) (x : Nibble) : Byte := s.v[x.toNat]'(x.isLt)

/-- R11, R20: `V[x] <- b`. -/
def State.setV (s : State) (x : Nibble) (b : Byte) : State :=
  { s with v := s.v.set x.toNat b x.isLt }

/-- R11: `I <- w`. -/
def State.setI (s : State) (w : Word) : State := { s with i := w }

/-- R11: `DT <- b`. -/
def State.setDt (s : State) (b : Byte) : State := { s with dt := b }

/-- R11: `ST <- b`. -/
def State.setSt (s : State) (b : Byte) : State := { s with st := b }

/-- R120, R121: the framebuffer replaced and DRAW set, as 00E0 and DXYN do together (R124). -/
def State.setFrame (s : State) (fb : Frame) : State := { s with fb := fb, draw := true }

/-- R36, R161: the step's random byte, the one the host named or else the next free value (log 3). -/
def State.rndByte (s : State) : Byte :=
  match s.rndIn with
  | some b => b
  | none => Config.rnd s.draws

/-- The next free value is used up (log 3). -/
def State.drawn (s : State) : State := { s with draws := s.draws + 1 }

/-! ### Program counter and stack (spec/10_state.md R24 to R30) -/

/-- R11: `PC <- target`. -/
def State.setPc (s : State) (w : Word) : State := { s with pc := w }

/-- R103: the advance past the fetched word. A skip is a second advance (R130). -/
def State.advance (s : State) : State := { s with pc := s.pc + Config.insnBytes }

/-- R130: advance, and skip the next word if the condition holds. -/
def State.skipIf (s : State) (c : Bool) : State := if c then s.advance.advance else s.advance

/-- R29, R133: push; none when SP = 16. -/
def State.push? (s : State) (w : Word) : Option State :=
  if h : s.sp.val < Config.stackDepth then
    some { s with stk := s.stk.set s.sp.val w h, sp := ⟨s.sp.val + 1, Nat.succ_lt_succ h⟩ }
  else none

/-- R29, R131: pop; none when SP = 0. The entry keeps its value (R131). -/
def State.pop? (s : State) : Option (Word × State) :=
  if h : 0 < s.sp.val then
    some (s.stk[s.sp.val - 1]'(by have := s.sp.isLt; omega),
      { s with sp := ⟨s.sp.val - 1, by have := s.sp.isLt; omega⟩ })
  else none

/-! ### Fetch and fault entry (spec/40_cycle.md R101, R102, R110; spec/60_exceptions.md R212) -/

/-- R101, R102: the big-endian word at PC; none when PC > 4094. -/
def State.fetchWord (s : State) : Option Word :=
  if s.pc.toNat ≤ 4094 then
    some (wordOfBytes (s.peek s.pc.toNat) (s.peek (s.pc.toNat + 1)))
  else none

/-- R212, R110: fault entry, on the state at the start of the step, whose PC is A. Nothing else is
committed; FAULT takes the record, with the fetched word (log 9), and the step returns it. -/
def State.raise (s : State) (c : FaultCause) : State :=
  { s with
    fault := some { cause := c, pc := s.pc, word := s.fetchWord }
    result := some (.fault { cause := c, pc := s.pc, word := s.fetchWord }) }

/-- R53: the meaning's result `t` if the bytes `[I, I + len)` lie in memory, else MemoryOutOfBounds with
nothing committed. -/
def State.orOutOfBounds (s : State) (len : Nat) (t : State) : State :=
  if inMemory s.i.toNat len then t else s.raise (.memoryOutOfBounds s.i len)

/-- R211: the fault code of a step's fault. -/
def FaultCause.code : FaultCause → Nat
  | .invalidOpcode _ _ => 1
  | .fetchOutOfBounds _ => 2
  | .stackUnderflow => 3
  | .stackOverflow => 4
  | .memoryOutOfBounds _ _ => 5
  | .keyIndexOutOfRange _ => 6
  | .indexOverflow _ _ => 7

/-- R211, R241: the code of the load-time error, which Reset(P) returns. -/
def Fault.code : Fault → Nat
  | .loadTooLarge => 8

/-- R211: what the port `fault_info` carries, the first info item; codes 3 and 4 have none. -/
def FaultCause.firstInfo : FaultCause → Option Word
  | .invalidOpcode w _ => some w
  | .fetchOutOfBounds a => some a
  | .stackUnderflow => none
  | .stackOverflow => none
  | .memoryOutOfBounds i _ => some i
  | .keyIndexOutOfRange vx => some (vx.setWidth 16)
  | .indexOverflow i _ => some i

/-! ### Timers (spec/40_cycle.md R107, R108) -/

/-- R107: one decrement, not below 0. -/
def countDown (b : Byte) : Byte := if b = 0 then 0 else b - 1

/-- R107: the timer phase. -/
def State.timerPhase (s : State) : State :=
  { s with dt := countDown s.dt, st := countDown s.st }

/-- R108: the beep, on the sound timer before its decrement. -/
def State.beep (s : State) : Bool := s.st == 1

/-! ### Framebuffer (spec/10_state.md R32) -/

/-- R11: `FB[y][x]`. -/
def Frame.pixel (fb : Frame) (y : Fin 32) (x : Fin 64) : Bool := fb[y.val].getLsbD x.val

/-- R121: `FB[y][x] <- FB[y][x] ^ 1`. -/
def Frame.flip (fb : Frame) (y : Fin 32) (x : Fin 64) : Frame :=
  fb.set y.val (fb[y.val] ^^^ (1#64 <<< x.val))

/-- R120: every pixel 0. -/
def Frame.clear : Frame := Vector.replicate 32 0

/-! ### Construction (spec/70_reset_and_hazards.md R240) -/

/-- R240: the state constructed with the parameters `p`, whose 80 font bytes are copied first, from a
program image that fits (R241). -/
def State.construct (p : Params) (image : List Byte) : State :=
  ((State.resetAt p).storeAt Config.fontBase p.fontRom.toList).storeAt Config.progBase image

end Sys2Proof.Machine
end

