-- ==== Sys2Proof/Machine/Operands.lean ====
section
/-!
DEFINITION. The operand forms of spec/30_encoding.md R73, R74 and the values the memory and key
instructions compute from a register (spec/44_index_memory.md, spec/45_input_timers.md).
-/

namespace Sys2Proof.Machine

/-- R73: `zext_16(NNN)`. -/
def zextAddr (nnn : Addr12) : Word := nnn.setWidth 16

/-- R73: `zext_16` of a byte. -/
def zextByte (b : Byte) : Word := b.setWidth 16

/-- R140: the target of BNNN, `zext_16(NNN) + zext_16(V[0])`. -/
def State.offsetTarget (s : State) (nnn : Addr12) : Word := zextAddr nnn + zextByte (s.vreg 0)

/-- R172: the address of the glyph for a register value, not masked. -/
def glyphAddress (b : Byte) : Word := zextByte b * BitVec.ofNat 16 Config.fontGlyphBytes

/-- R173: the three decimal digits of a byte, hundreds first. -/
def bcdDigits (b : Byte) : List Byte :=
  [BitVec.ofNat 8 (b.toNat / 100), BitVec.ofNat 8 (b.toNat / 10 % 10), BitVec.ofNat 8 (b.toNat % 10)]

/-- R73, R174, R175: FX55 and FX65 move X + 1 registers. -/
def regCount (x : Nibble) : Nat := x.toNat + 1

/-- R174: the first `n` registers V0, V1, … as bytes to store. -/
def State.firstRegs (s : State) (n : Nat) : List Byte :=
  (List.range n).map fun k => s.vreg (BitVec.ofNat 4 k)

/-- R175: the registers with V0 to V(n-1) loaded, register k with the byte `byte k`. -/
def loadFirst (byte : Nat → Byte) : Nat → Vector Byte 16 → Vector Byte 16
  | 0, v => v
  | n + 1, v => (loadFirst byte n v).setIfInBounds n (byte n)

/-- R174, R175: `I + X + 1`, at most 4096 when the range check has passed. -/
def State.indexPast (s : State) (n : Nat) : Word := s.i + BitVec.ofNat 16 n

/-- R34, R190: key `k` of the latch; a number above 15 names no key. -/
def State.keyDown (s : State) (k : Nat) : Bool := s.key.getLsbD k

/-- R193: the scan of keys 0 to n-1 in order, the last pressed key found winning. -/
def lastPressed (key : BitVec 16) : Nat → Option Byte
  | 0 => none
  | n + 1 => if key.getLsbD n then some (BitVec.ofNat 8 n) else lastPressed key n

/-- R193: the key FX0A finds in the latch. -/
def State.foundKey (s : State) : Option Byte := lastPressed s.key 16

/-- R190, R191: the meaning's result `t` if the key number is at most 15, else KeyIndexOutOfRange. -/
def State.orKeyOutOfRange (s : State) (vx : Byte) (t : State) : State :=
  if 15 < vx.toNat then s.raise (.keyIndexOutOfRange vx) else t

end Sys2Proof.Machine
end

