-- ==== Sys2Proof/Machine/Cycle.lean ====
section
/-!
DEFINITION. The phases of a step around the execute phase, spec/40_cycle.md: fetch and decode before it,
the key-wait retry, the timer phase and the result after it. Step.lean puts them together.
-/

namespace Sys2Proof.Machine

/-- R111: a step on a faulted core changes nothing and returns the fault again. -/
def State.faultAgain (s : State) (r : FaultRecord) : State := { s with result := some (.fault r) }

/-- R101 to R104 and R111: the decoded instruction, or the state the step ends in before executing. -/
def State.fetchDecode (s : State) : Except State Instr :=
  match s.fault with
  | some r => .error (s.faultAgain r)
  | none =>
    match s.fetchWord with
    | none => .error (s.raise (.fetchOutOfBounds s.pc))
    | some w =>
      match decodeWord w with
      | .ok i => .ok i
      | .error _ => .error (s.raise (.invalidOpcode w s.pc))

/-- R106: FX0A with no key pressed, whose step ends before the timer phase. -/
def keyWait (i : Instr) (s : State) : Bool :=
  match i with
  | .ldVxK _ => s.foundKey.isNone
  | _ => false

/-- R109: the step returns Ok(beep); the byte the host named on the rnd input is used up (log 3). -/
def State.returnOk (s : State) (beep : Bool) : State :=
  { s with result := some (.ok beep), rndIn := none }

/-- R106 to R110: the end of a step that executed `i` from the state `s` and reached `t`. -/
def endStep (i : Instr) (s t : State) : State :=
  match t.fault with
  | some _ => t
  | none => if keyWait i s then t.returnOk false else t.timerPhase.returnOk t.beep

/-- The state with an instruction word stored where the next step fetches, and the fault latch clear,
without which no step fetches (R111). It stands for a load from outside (log 12). -/
def State.loadWord (s : State) (w : Word) : State :=
  { s.storeAt s.pc.toNat (bytesOfWord w) with fault := none }

end Sys2Proof.Machine
end

