-- ==== Sys2Proof/Machine/Flags.lean ====
section
/-!
DEFINITION. Every value VF can take as a flag (spec/10_state.md R23) and the order of the flag write and
the data write (spec/00_scope.md R13, spec/43_register_alu.md R163).
-/

namespace Sys2Proof.Machine

/-- R10: `bool(c)` as a register value. -/
def flagByte (c : Bool) : Byte := if c then 1 else 0

/-- R21: VF is V[15]. -/
def vf : Nibble := 15

/-- R156: the carry of a byte sum. -/
def carryFlag (a b : Byte) : Byte := flagByte (decide (255 < a.toNat + b.toNat))

/-- R157, R159: no borrow in `a - b`; `eq` is the value for equal operands (`P_SUB_EQ_FLAG`). -/
def noBorrowFlag (eq : Bool) (a b : Byte) : Byte :=
  flagByte (decide (b.toNat < a.toNat) || (eq && a == b))

/-- R158: the bit a right shift drops. -/
def lowBitFlag (a : Byte) : Byte := a &&& 1

/-- R160: the bit a left shift drops. -/
def highBitFlag (a : Byte) : Byte := a >>> 7

/-- R171: the exact sum I + VX. -/
def indexSum (i : Word) (vx : Byte) : Nat := i.toNat + vx.toNat

/-- R171: the carry past 0xFFF. -/
def indexCarryFlag (i : Word) (vx : Byte) : Byte := flagByte (decide (0xFFF < indexSum i vx))

/-- R13, R163: VF takes the flag and V[x] the data, both computed from a register file, in one of the
orders of `P_VF_ORDER` (spec/93_implementation_defined.md U9). -/
def State.flagAndData (order : VfOrder) (x : Nibble) (flag data : State → Byte) (s : State) : State :=
  match order with
  | .dataLast => (s.setV vf (flag s)).setV x (data s)
  | .flagLast => (s.setV x (data s)).setV vf (flag s)
  | .sequential => (s.setV vf (flag s)).setV x (data (s.setV vf (flag s)))

end Sys2Proof.Machine
end

