-- ==== Sys2Proof/Machine/ControlFlow.lean ====
section
/-!
DEFINITION. The control-flow instructions, spec/42_control_flow.md: 00EE, 1NNN, 2NNN, 3XNN, 4XNN, 5XY0,
9XY0 and BNNN.
-/

namespace Sys2Proof.Machine

/-- R133, R138: the value 2NNN pushes, from the fetch address. -/
def linkValue (link : CallLink) (a : Word) : Word :=
  match link with
  | .fetchAddr => a
  | .advancedPc => a + Config.insnBytes

/-- R133: call under a link choice. -/
def State.callVia (link : CallLink) (nnn : Addr12) (s : State) : State :=
  match s.push? (linkValue link s.pc) with
  | some t => t.setPc (zextAddr nnn)
  | none => s.raise .stackOverflow

/-- R131: return to the popped value + 2. -/
def State.popReturn (s : State) : State :=
  match s.pop? with
  | some (r, t) => t.setPc (r + Config.insnBytes)
  | none => s.raise .stackUnderflow

/-- `00EE` RET, R131. -/
def execRet (s : State) : Host.Outcome State Fault Refusal :=
  .next s.popReturn

/-- `1NNN` JP NNN, R132. -/
def execJp (nnn : Addr12) (s : State) : Host.Outcome State Fault Refusal :=
  .next (s.setPc (zextAddr nnn))

/-- `2NNN` CALL NNN, R133. -/
def execCall (nnn : Addr12) (s : State) : Host.Outcome State Fault Refusal :=
  .next (s.callVia s.params.callLink nnn)

/-- `3XNN` SE VX, NN, R134. -/
def execSeImm (x : Nibble) (nn : Byte) (s : State) : Host.Outcome State Fault Refusal :=
  .next (s.skipIf (s.vreg x == nn))

/-- `4XNN` SNE VX, NN, R135. -/
def execSneImm (x : Nibble) (nn : Byte) (s : State) : Host.Outcome State Fault Refusal :=
  .next (s.skipIf (s.vreg x != nn))

/-- `5XY0` SE VX, VY, R136. -/
def execSeReg (x y : Nibble) (s : State) : Host.Outcome State Fault Refusal :=
  .next (s.skipIf (s.vreg x == s.vreg y))

/-- `9XY0` SNE VX, VY, R137. -/
def execSneReg (x y : Nibble) (s : State) : Host.Outcome State Fault Refusal :=
  .next (s.skipIf (s.vreg x != s.vreg y))

/-- `BNNN` JP V0, NNN, R140. -/
def execJpV0 (nnn : Addr12) (s : State) : Host.Outcome State Fault Refusal :=
  .next (s.setPc (s.offsetTarget nnn))

end Sys2Proof.Machine
end

