-- ==== Sys2Proof/Machine/Display.lean ====
section
/-!
DEFINITION. The display instructions, spec/41_display.md: 00E0 and DXYN.
-/

namespace Sys2Proof.Machine

/-- R121: one sprite bit on the framebuffer and the collision flag so far. -/
def drawBit (y : Fin 32) (x : Fin 64) (bit : Bool) (p : Frame × Bool) : Frame × Bool :=
  if bit then (p.1.flip y x, p.2 || p.1.pixel y x) else p

/-- R121, R122: columns 0 to n-1 of sprite row `r`, column `col` being bit 7 - col of the row's byte. -/
def drawColumns (vx vy r : Nat) (row : Byte) : Nat → Frame × Bool → Frame × Bool
  | 0, p => p
  | col + 1, p =>
    drawBit (Fin.ofNat 32 (vy + r)) (Fin.ofNat 64 (vx + col)) (row.getLsbD (7 - col))
      (drawColumns vx vy r row col p)

/-- R121, R122: rows 0 to n-1 of a sprite, row `r` being the byte `byte r`. -/
def drawRows (byte : Nat → Byte) (vx vy : Nat) : Nat → Frame × Bool → Frame × Bool
  | 0, p => p
  | r + 1, p => drawColumns vx vy r (byte r) 8 (drawRows byte vx vy r p)

/-- R121: the state whose registers give the coordinates: the start-of-step state, or the one with VF
already 0 when the order is sequential (U9, log 7). -/
def State.coordinateSource (s : State) : State :=
  match s.params.vfOrder with
  | .sequential => s.setV vf 0
  | .dataLast => s
  | .flagLast => s

/-- R121: the framebuffer after the sprite at I, and whether a bit collided. -/
def State.drawSprite (x y n : Nibble) (s : State) : Frame × Bool :=
  drawRows (fun r => s.peek (s.i.toNat + r)) (s.coordinateSource.vreg x).toNat
    (s.coordinateSource.vreg y).toNat n.toNat (s.fb, false)

/-- `00E0` CLS, R120. -/
def execCls (s : State) : Host.Outcome State Fault Refusal :=
  .next (s.setFrame Frame.clear).advance

/-- `DXYN` DRW VX, VY, N, R121. -/
def execDrw (x y n : Nibble) (s : State) : Host.Outcome State Fault Refusal :=
  .next (s.orOutOfBounds n.toNat
    ((s.setFrame (s.drawSprite x y n).1).setV vf (flagByte (s.drawSprite x y n).2)).advance)

end Sys2Proof.Machine
end

