-- ==== Sys2Proof/Machine/IndexMemory.lean ====
section
/-!
DEFINITION. The index-register and memory instructions, spec/44_index_memory.md: ANNN, FX1E, FX29, FX33,
FX55 and FX65.
-/

namespace Sys2Proof.Machine

/-- R171: add to I and set the carry, or IndexOverflow past 16 bits. I takes the old VF when X = 15, and
VF then takes the carry (R163). -/
def State.addIndex (s : State) (vx : Byte) : State :=
  if 0xFFFF < indexSum s.i vx then s.raise (.indexOverflow s.i vx)
  else ((s.setI (BitVec.ofNat 16 (indexSum s.i vx))).setV vf (indexCarryFlag s.i vx)).advance

/-- R175: registers V0 to V(n-1) loaded from memory at I. -/
def State.loadRegFile (s : State) (n : Nat) : State :=
  { s with v := loadFirst (fun k => s.peek (s.i.toNat + k)) n s.v }

/-- R173, R174: bytes stored at I and above. -/
def State.storeAtIndex (s : State) (bs : List Byte) : State :=
  s.storeAt s.i.toNat bs

/-- `ANNN` LD I, NNN, R170. -/
def execLdI (nnn : Addr12) (s : State) : Host.Outcome State Fault Refusal :=
  .next (s.setI (zextAddr nnn)).advance

/-- `FX1E` ADD I, VX, R171. -/
def execAddI (x : Nibble) (s : State) : Host.Outcome State Fault Refusal :=
  .next (s.addIndex (s.vreg x))

/-- `FX29` LD F, VX, R172. -/
def execLdF (x : Nibble) (s : State) : Host.Outcome State Fault Refusal :=
  .next (s.setI (glyphAddress (s.vreg x))).advance

/-- `FX33` LD B, VX, R173. -/
def execLdB (x : Nibble) (s : State) : Host.Outcome State Fault Refusal :=
  .next (s.orOutOfBounds 3 (s.storeAtIndex (bcdDigits (s.vreg x))).advance)

/-- `FX55` LD [I], VX, R174. -/
def execStoreRegs (x : Nibble) (s : State) : Host.Outcome State Fault Refusal :=
  .next (s.orOutOfBounds (regCount x)
    ((s.storeAtIndex (s.firstRegs (regCount x))).setI (s.indexPast (regCount x))).advance)

/-- `FX65` LD VX, [I], R175. -/
def execLoadRegs (x : Nibble) (s : State) : Host.Outcome State Fault Refusal :=
  .next (s.orOutOfBounds (regCount x)
    ((s.loadRegFile (regCount x)).setI (s.indexPast (regCount x))).advance)

end Sys2Proof.Machine
end

