-- ==== Sys2Proof/Machine/InputTimers.lean ====
section
/-!
DEFINITION. The input and timer instructions, spec/45_input_timers.md: EX9E, EXA1, FX07, FX0A, FX15 and
FX18. The timer phase of the step comes after them (spec/40_cycle.md R107).
-/

namespace Sys2Proof.Machine

/-- `EX9E` SKP VX, R190. -/
def execSkp (x : Nibble) (s : State) : Host.Outcome State Fault Refusal :=
  .next (s.orKeyOutOfRange (s.vreg x) (s.skipIf (s.keyDown (s.vreg x).toNat)))

/-- `EXA1` SKNP VX, R191. -/
def execSknp (x : Nibble) (s : State) : Host.Outcome State Fault Refusal :=
  .next (s.orKeyOutOfRange (s.vreg x) (s.skipIf (!s.keyDown (s.vreg x).toNat)))

/-- `FX07` LD VX, DT, R192. -/
def execLdVxDt (x : Nibble) (s : State) : Host.Outcome State Fault Refusal :=
  .next (s.setV x s.dt).advance

/-- `FX0A` LD VX, K, R193: with no key pressed PC stays at A and the step retries (R106). -/
def execLdVxK (x : Nibble) (s : State) : Host.Outcome State Fault Refusal :=
  .next (match s.foundKey with
    | some k => (s.setV x k).advance
    | none => s)

/-- `FX15` LD DT, VX, R194. -/
def execLdDtVx (x : Nibble) (s : State) : Host.Outcome State Fault Refusal :=
  .next (s.setDt (s.vreg x)).advance

/-- `FX18` LD ST, VX, R195. -/
def execLdStVx (x : Nibble) (s : State) : Host.Outcome State Fault Refusal :=
  .next (s.setSt (s.vreg x)).advance

end Sys2Proof.Machine
end

