-- ==== Sys2Proof/Machine/RegisterAlu.lean ====
section
/-!
DEFINITION. The register and ALU instructions, spec/43_register_alu.md: 6XNN, 7XNN, 8XY0 to 8XY7, 8XYE
and CXNN. None can fault once decoded.
-/

namespace Sys2Proof.Machine

/-- `6XNN` LD VX, NN, R150. -/
def execLdImm (x : Nibble) (nn : Byte) (s : State) : Host.Outcome State Fault Refusal :=
  .next (s.setV x nn).advance

/-- `7XNN` ADD VX, NN, R151: no flag. -/
def execAddImm (x : Nibble) (nn : Byte) (s : State) : Host.Outcome State Fault Refusal :=
  .next (s.setV x (s.vreg x + nn)).advance

/-- `8XY0` LD VX, VY, R152. -/
def execLdReg (x y : Nibble) (s : State) : Host.Outcome State Fault Refusal :=
  .next (s.setV x (s.vreg y)).advance

/-- `8XY1` OR VX, VY, R153. -/
def execOrReg (x y : Nibble) (s : State) : Host.Outcome State Fault Refusal :=
  .next (s.setV x (s.vreg x ||| s.vreg y)).advance

/-- `8XY2` AND VX, VY, R154. -/
def execAndReg (x y : Nibble) (s : State) : Host.Outcome State Fault Refusal :=
  .next (s.setV x (s.vreg x &&& s.vreg y)).advance

/-- `8XY3` XOR VX, VY, R155. -/
def execXorReg (x y : Nibble) (s : State) : Host.Outcome State Fault Refusal :=
  .next (s.setV x (s.vreg x ^^^ s.vreg y)).advance

/-- `8XY4` ADD VX, VY, R156. -/
def execAddReg (x y : Nibble) (s : State) : Host.Outcome State Fault Refusal :=
  .next (s.flagAndData s.params.vfOrder x (fun t => carryFlag (t.vreg x) (t.vreg y))
    (fun t => t.vreg x + t.vreg y)).advance

/-- `8XY5` SUB VX, VY, R157. -/
def execSubReg (x y : Nibble) (s : State) : Host.Outcome State Fault Refusal :=
  .next (s.flagAndData s.params.vfOrder x
    (fun t => noBorrowFlag s.params.subEqFlag (t.vreg x) (t.vreg y))
    (fun t => t.vreg x - t.vreg y)).advance

/-- `8XY6` SHR VX, R158: VY is not read. -/
def execShr (x _y : Nibble) (s : State) : Host.Outcome State Fault Refusal :=
  .next (s.flagAndData s.params.vfOrder x (fun t => lowBitFlag (t.vreg x))
    (fun t => t.vreg x >>> 1)).advance

/-- `8XY7` SUBN VX, VY, R159. -/
def execSubnReg (x y : Nibble) (s : State) : Host.Outcome State Fault Refusal :=
  .next (s.flagAndData s.params.vfOrder x
    (fun t => noBorrowFlag s.params.subEqFlag (t.vreg y) (t.vreg x))
    (fun t => t.vreg y - t.vreg x)).advance

/-- `8XYE` SHL VX, R160: VY is not read. -/
def execShl (x _y : Nibble) (s : State) : Host.Outcome State Fault Refusal :=
  .next (s.flagAndData s.params.vfOrder x (fun t => highBitFlag (t.vreg x))
    (fun t => t.vreg x <<< 1)).advance

/-- `CXNN` RND VX, NN, R161: the step's random byte, which is free (log 3). -/
def execRnd (x : Nibble) (nn : Byte) (s : State) : Host.Outcome State Fault Refusal :=
  .next (s.setV x (s.rndByte &&& nn)).drawn.advance

end Sys2Proof.Machine
end

