-- ==== Sys2Proof/Machine/Step.lean ====
section
/-!
DEFINITION. One step of the core (spec/40_cycle.md R100, R114).
-/

namespace Sys2Proof.Machine

/-- R114: fetch, advance, decode, execute, timers. -/
def step (s : State) : Host.Outcome State Fault Refusal :=
  match s.fetchDecode with
  | .error t => .next t
  | .ok i =>
    match exec i s with
    | .next t => .next (endStep i s t)
    | .fault r => .fault r
    | .refused r => .refused r

/-- The state with an instruction placed where the next step fetches it; `w` has bit 0 as its least
significant bit, and the bits from `nbits` on are 0. -/
def State.withFetchWord (s : State) (nbits w : Nat) : State :=
  s.loadWord (BitVec.ofNat 16 (w % 2 ^ nbits))

end Sys2Proof.Machine
end

