-- ==== Sys2Proof/Machine/HostOps.lean ====
section
/-!
DEFINITION. The host's operations on the core (spec/40_cycle.md R112, R113). Each is one transaction
between steps; no operation overlaps a step.
-/

namespace Sys2Proof.Machine

/-- The operations of R112; `beep` is part of a step's result. -/
inductive HostOp where
  /-- `Reset(P)`. -/
  | reset (image : List Byte)
  /-- `SetKeys(k[15:0])`. -/
  | setKeys (k : BitVec 16)
  /-- `Step(rnd[7:0])`. -/
  | step (rnd : Byte)
  /-- `ReadFB()`. -/
  | readFB
  /-- `ReadDraw()`. -/
  | readDraw
  /-- `ClearDraw()`. -/
  | clearDraw
  /-- `ReadFault()`. -/
  | readFault
  deriving DecidableEq, Repr

/-- R240, R241: Reset(P), the same from every state of a core with given parameters; LoadTooLarge leaves
no valid state (log 12). -/
def resetWith (p : Params) (image : List Byte) : Host.Outcome State Fault Refusal :=
  if ImageFits image then .next (State.construct p image) else .fault .loadTooLarge

/-- R112, R197: SetKeys. -/
def State.setKeys (s : State) (k : BitVec 16) : State := { s with key := k }

/-- R112, R124: ClearDraw. -/
def State.clearDraw (s : State) : State := { s with draw := false }

/-- R112, R114: Step(rnd), a step with the random byte named by the host. -/
def stepWith (rnd : Byte) (s : State) : Host.Outcome State Fault Refusal :=
  step { s with rndIn := some rnd }

/-- R112: ReadFB. -/
def State.readFB (s : State) : Frame := s.fb

/-- R112: the port view `fb_rd_px` at `fb_rd_y`, `fb_rd_x`. -/
def State.readPixel (s : State) (y : BitVec 5) (x : BitVec 6) : Bool :=
  Frame.pixel s.fb ⟨y.toNat, y.isLt⟩ ⟨x.toNat, x.isLt⟩

/-- R112: ReadDraw. -/
def State.readDraw (s : State) : Bool := s.draw

/-- R112: ReadFault. -/
def State.readFault (s : State) : Option FaultRecord := s.fault

/-- R112: the port `fault_code[3:0]`, valid when a fault is latched. -/
def State.faultCodePort (s : State) : Option (BitVec 4) :=
  s.fault.map fun r => BitVec.ofNat 4 r.cause.code

/-- R112: the port `fault_pc[15:0]`. -/
def State.faultPcPort (s : State) : Option Word := s.fault.map fun r => r.pc

/-- R112: the port `fault_word[15:0]`; nothing on it when no word was fetched. -/
def State.faultWordPort (s : State) : Option Word := s.fault.bind fun r => r.word

/-- R112, R211: the port `fault_info[15:0]`; nothing on it for codes 3 and 4. -/
def State.faultInfoPort (s : State) : Option Word := s.fault.bind fun r => r.cause.firstInfo

/-- R112, R241: the port `load_err`, as the code an operation fails with. -/
def loadError (o : Host.Outcome State Fault Refusal) : Option (BitVec 4) :=
  match o with
  | .next _ => none
  | .fault r => some (BitVec.ofNat 4 r.code)
  | .refused _ => none

/-- R112: what an operation makes of the state; the reads change nothing. -/
def hostOp (op : HostOp) (s : State) : Host.Outcome State Fault Refusal :=
  match op with
  | .reset image => resetWith s.params image
  | .setKeys k => .next (s.setKeys k)
  | .step rnd => stepWith rnd s
  | .readFB => .next s
  | .readDraw => .next s
  | .clearDraw => .next s.clearDraw
  | .readFault => .next s

/-- R8: the core made with the parameters `p`. The parameters are part of the state, so every such core has
the one `step` (log 23). -/
def coreAt (p : Params) : Host.Core :=
  { State := State
    Fault := Fault
    Refusal := Refusal
    step := step
    reset := State.resetAt p }

end Sys2Proof.Machine
end

