-- ==== Sys2Proof/Safety.lean ====
section
/-!
DEFINITION. The terms claims are stated in: what a step keeps, what a fault entry is, which fault the
table of spec/60_exceptions.md R211 gives a step, and the invariant of a safe run.
-/

namespace Sys2Proof.Machine

/-! ### What is kept from one state to another -/

/-- Every byte of memory reads as before. -/
def KeepsMemory (s t : State) : Prop := ∀ a : Nat, t.peek a = s.peek a

/-- Every byte of memory outside `[a, a + len)` reads as before. -/
def KeepsMemoryOutside (a len : Nat) (s t : State) : Prop :=
  ∀ c : Nat, c < a ∨ a + len ≤ c → t.peek c = s.peek c

/-- Every general register holds what it held. -/
def KeepsV (s t : State) : Prop := ∀ r : Nibble, t.vreg r = s.vreg r

/-- Every general register but `x` holds what it held. -/
def KeepsVBut (x : Nibble) (s t : State) : Prop := ∀ r : Nibble, r ≠ x → t.vreg r = s.vreg r

/-- The stack and its pointer are as before. -/
def KeepsStack (s t : State) : Prop := t.sp = s.sp ∧ t.stk = s.stk

/-- Both timers are as before. -/
def KeepsTimers (s t : State) : Prop := t.dt = s.dt ∧ t.st = s.st

/-- Framebuffer and draw flag are as before. -/
def KeepsScreen (s t : State) : Prop := t.fb = s.fb ∧ t.draw = s.draw

/-- Input latch, fault latch, parameters, last result, rnd input and the index of the next free byte are
as before. -/
def KeepsLatches (s t : State) : Prop :=
  t.key = s.key ∧ t.fault = s.fault ∧ t.params = s.params ∧ t.result = s.result ∧
    t.rndIn = s.rndIn ∧ t.draws = s.draws

/-- All but PC and the general registers is as before. -/
def KeepsOutsideV (s t : State) : Prop :=
  t.i = s.i ∧ KeepsMemory s t ∧ KeepsStack s t ∧ KeepsTimers s t ∧ KeepsScreen s t ∧ KeepsLatches s t

/-- All but PC is as before. -/
def KeepsAllButPc (s t : State) : Prop := KeepsV s t ∧ KeepsOutsideV s t

/-- Fault entry from `s` with a cause (R110, R212): the record is latched and returned, and nothing else
changes. -/
def RaisedFrom (s t : State) (c : FaultCause) : Prop :=
  t.fault = some { cause := c, pc := s.pc, word := s.fetchWord } ∧
    t.result = some (.fault { cause := c, pc := s.pc, word := s.fetchWord }) ∧
    t.pc = s.pc ∧ KeepsV s t ∧ t.i = s.i ∧ KeepsMemory s t ∧ KeepsStack s t ∧ KeepsTimers s t ∧
    KeepsScreen s t ∧ t.key = s.key ∧ t.params = s.params ∧ t.rndIn = s.rndIn ∧ t.draws = s.draws

/-- The instruction's word has the row's match under the row's mask (R85), and decodes back to it. -/
def EncodedAs (i : Instr) (value mask : Word) : Prop :=
  encode i &&& mask = value ∧ decodeWord (encode i) = .ok i

/-! ### VF as an operand, R163 and U9 -/

/-- A register read after VF has taken the flag. -/
def State.readAgain (s : State) (flag : Byte) (r : Nibble) : Byte := if r = 15 then flag else s.vreg r

/-- What VX and VF end as under each `P_VF_ORDER` (U9): `flag` and `data` are computed from the registers at
the start of the step, `again` is the data computed from the registers after VF has taken the flag. -/
def FlagThenData (s t : State) (x : Nibble) (flag data again : Byte) : Prop :=
  match s.params.vfOrder with
  | .dataLast => t.vreg x = data ∧ (x ≠ 15 → t.vreg 15 = flag)
  | .flagLast => t.vreg 15 = flag ∧ (x ≠ 15 → t.vreg x = data)
  | .sequential => t.vreg x = again ∧ (x ≠ 15 → t.vreg 15 = flag)

/-! ### The sprite of DXYN, R121, R122 -/

/-- A coordinate of DXYN: the register at the start of the step, but for VF in the sequential order, which
is 0 by then (U9). -/
def State.coordinate (s : State) (r : Nibble) : Nat :=
  match s.params.vfOrder with
  | .dataLast => (s.vreg r).toNat
  | .flagLast => (s.vreg r).toNat
  | .sequential => (s.readAgain 0 r).toNat

/-- Some bit of value 1 of the N-row sprite at I lands on the pixel in row `py`, column `px`. -/
def SpriteCovers (s : State) (x y n : Nibble) (py : Fin 32) (px : Fin 64) : Prop :=
  ∃ r col : Nat, r < n.toNat ∧ col < 8 ∧
    (s.peek (s.i.toNat + r)).getLsbD (7 - col) = true ∧
    py.val = (s.coordinate y + r) % 32 ∧ px.val = (s.coordinate x + col) % 64

/-! ### The faults of R211 -/

/-- R53: the length an instruction accesses at I. -/
def accessLength : Instr → Option Nat
  | .drw _ _ n => some n.toNat
  | .ldB _ => some 3
  | .storeRegs x => some (x.toNat + 1)
  | .loadRegs x => some (x.toNat + 1)
  | _ => none

/-- R211: the execute-phase fault of an instruction in a state, codes 3 to 7. -/
def executeFault (i : Instr) (s : State) : Option FaultCause :=
  match i with
  | .ret => if s.sp.val = 0 then some .stackUnderflow else none
  | .call _ => if s.sp.val = 16 then some .stackOverflow else none
  | .skp x => if 15 < (s.vreg x).toNat then some (.keyIndexOutOfRange (s.vreg x)) else none
  | .sknp x => if 15 < (s.vreg x).toNat then some (.keyIndexOutOfRange (s.vreg x)) else none
  | .addI x =>
    if 0xFFFF < s.i.toNat + (s.vreg x).toNat then some (.indexOverflow s.i (s.vreg x)) else none
  | j =>
    match accessLength j with
    | some len => if 4096 < s.i.toNat + len then some (.memoryOutOfBounds s.i len) else none
    | none => none

/-- R211, R214: the fault of a step from a state with no fault latched, in phase order. -/
def stepFault (s : State) : Option FaultCause :=
  match s.fetchWord with
  | none => some (.fetchOutOfBounds s.pc)
  | some w =>
    match decodeWord w with
    | .error _ => some (.invalidOpcode w s.pc)
    | .ok i => executeFault i s

/-! ### Which instruction touches what (spec/10_state.md R22, R23, R27, spec/42_control_flow.md R139) -/

/-- R22, R23: the general registers an instruction may write. -/
def WritesReg (i : Instr) (r : Nibble) : Prop :=
  match i with
  | .ldImm x _ => r = x
  | .addImm x _ => r = x
  | .ldReg x _ => r = x
  | .orReg x _ => r = x
  | .andReg x _ => r = x
  | .xorReg x _ => r = x
  | .addReg x _ => r = x ∨ r = 15
  | .subReg x _ => r = x ∨ r = 15
  | .shr x _ => r = x ∨ r = 15
  | .subnReg x _ => r = x ∨ r = 15
  | .shl x _ => r = x ∨ r = 15
  | .rnd x _ => r = x
  | .drw _ _ _ => r = 15
  | .ldVxDt x => r = x
  | .ldVxK x => r = x
  | .addI _ => r = 15
  | .loadRegs x => r.toNat ≤ x.toNat
  | _ => False

/-- R27: the instructions that write I. -/
def WritesIndex (i : Instr) : Prop :=
  match i with
  | .ldI _ => True
  | .addI _ => True
  | .ldF _ => True
  | .storeRegs _ => True
  | .loadRegs _ => True
  | _ => False

/-- R139: the instructions that write PC beyond the advance. -/
def WritesPc (i : Instr) : Prop :=
  match i with
  | .ret => True
  | .jp _ => True
  | .call _ => True
  | .jpV0 _ => True
  | .ldVxK _ => True
  | .seImm _ _ => True
  | .sneImm _ _ => True
  | .seReg _ _ => True
  | .sneReg _ _ => True
  | .skp _ => True
  | .sknp _ => True
  | _ => False

/-! ### The invariant -/

/-- The greatest value 2NNN can push: the last fetch address (R30, R101), or that + 2 (R138). -/
def maxLink (link : CallLink) : Nat :=
  match link with
  | .fetchAddr => 4094
  | .advancedPc => 4096

/-- What every run from reset keeps, whatever the parameters: memory in its canonical form; PC at most
0x10FE (R26); every stack entry a value a call can push, or 0 (R30, R138); a latched fault is what the last
step returned, and PC is its fetch address (R110, R213). -/
structure State.Inv (s : State) : Prop where
  mem_wf : Memory.wf s.params.fontRom s.mem
  pc_le : s.pc.toNat ≤ 0x10FE
  stk_le : ∀ k : Fin 16, s.stk[k.val].toNat ≤ maxLink s.params.callLink
  fault_result : ∀ r, s.fault = some r → s.result = some (.fault r) ∧ r.pc = s.pc

end Sys2Proof.Machine
end

