-- ==== Sys2Proof/Certificates/Slice0/Obligations.lean ====
section
/-!
DEFINITION. The statements for the provers, each from the rules of spec/. The docstring names the rule
or the spec's own choice a statement rests on, and the log entry where the model records it.
-/

open Sys2Proof Sys2Proof.Machine

/-! ### Encoding and decoding (spec/30_encoding.md) -/

/-- Decoding the bytes of any instruction gives it back, and the bytes after it (R70, R72, R84). -/
def Obligations.DecodeOfEncode : Prop :=
  ∀ (i : Instr) (rest : List Byte), decodeBytes (encodeBytes i ++ rest) = .ok (i, rest)

/-- Every valid word is the encoding of the instruction it decodes to, so a word has one meaning and no
bit of it is dropped (R83, R84). -/
def Obligations.EncodeOfDecode : Prop :=
  ∀ (w : Word) (i : Instr), decodeWord w = .ok i → encode i = w

/-- R85, R75: a word is instruction k exactly when its masked bits are the row's match, and the 34
patterns are pairwise disjoint (the strict masks are the spec's choice D4, log 16). -/
def Obligations.DecodeFollowsOpcodeMap : Prop :=
  opcodeMap.length = 34 ∧
  (∀ (w : Word) (r : OpcodeRow), r ∈ opcodeMap →
    (w &&& r.mask = r.value ↔ ∃ i, decodeWord w = .ok i ∧ i.rowNumber = r.number)) ∧
  (∀ (w : Word) (r r' : OpcodeRow), r ∈ opcodeMap → r' ∈ opcodeMap →
    w &&& r.mask = r.value → w &&& r'.mask = r'.value → r = r')

/-- The invalid words, family by family (R76 to R81); the strict reading of 00E0, 00EE, 5XY0 and 9XY0 is
the spec's choice D4 (log 16). -/
def Obligations.InvalidWordsAreExactlyThese : Prop :=
  ∀ w : Word, (∃ e, decodeWord w = .error e) ↔
    (fieldF w = 0x0 ∧ w ≠ 0x00E0 ∧ w ≠ 0x00EE) ∨
    ((fieldF w = 0x5 ∨ fieldF w = 0x9) ∧ fieldN w ≠ 0) ∨
    (fieldF w = 0x8 ∧ 8 ≤ (fieldN w).toNat ∧ fieldN w ≠ 0xE) ∨
    (fieldF w = 0xE ∧ fieldNN w ≠ 0x9E ∧ fieldNN w ≠ 0xA1) ∨
    (fieldF w = 0xF ∧ fieldNN w ∉ [0x07, 0x0A, 0x15, 0x18, 0x1E, 0x29, 0x33, 0x55, 0x65])

/-- Eight words written out from the encoding rules decode to what they stand for, and two invalid ones do
not decode; that 0x5121 is invalid is the spec's choice D4 (R77, log 16). -/
def Obligations.SpecWordsDecode : Prop :=
  decodeWord 0x00EE = .ok .ret ∧ decodeWord 0x5230 = .ok (.seReg 2 3) ∧
  decodeWord 0x8AB5 = .ok (.subReg 0xA 0xB) ∧ decodeWord 0xC30F = .ok (.rnd 3 0x0F) ∧
  decodeWord 0xDF11 = .ok (.drw 0xF 1 1) ∧ decodeWord 0xE5A1 = .ok (.sknp 5) ∧
  decodeWord 0xF255 = .ok (.storeRegs 2) ∧ decodeWord 0xF30A = .ok (.ldVxK 3) ∧
  decodeWord 0x5121 = .error (.invalidOpcode 0x5121) ∧
  decodeWord 0x0000 = .error (.invalidOpcode 0x0000)

/-! ### The step (spec/40_cycle.md, spec/60_exceptions.md) -/

/-- R102, R54: the fetched word is the two bytes at PC, the byte at PC high. -/
def Obligations.FetchIsBigEndian : Prop :=
  ∀ s : State, s.pc.toNat ≤ 4094 → ∃ w, s.fetchWord = some w ∧
    w.toNat = 256 * (s.peek s.pc.toNat).toNat + (s.peek (s.pc.toNat + 1)).toNat

/-- R114: with no fault latched, when the two bytes at PC decode to an instruction, the step is that
instruction on that state, and then the end of the step. -/
def Obligations.StepRunsDecodedInstruction : Prop :=
  ∀ (s : State) (i : Instr), s.fault = none → s.pc.toNat ≤ 4094 →
    decodeBytes [s.peek s.pc.toNat, s.peek (s.pc.toNat + 1)] = .ok (i, []) →
    step s = (match exec i s with
      | .next t => .next (endStep i s t)
      | .fault r => .fault r
      | .refused r => .refused r)

/-- Every operation of the host, a step among them, answers a next state from every state, but
Reset(P) with an image longer than 3584 bytes, which fails with LoadTooLarge (R112, R241; that no step
stops outside the state is the model's choice, log 1 and log 12); and the three reads change nothing. -/
def Obligations.HostOpsAlwaysAnswer : Prop :=
  ∀ (op : HostOp) (s : State),
    ((∃ t, hostOp op s = .next t) ∨
      ∃ image, op = .reset image ∧ 3584 < image.length ∧ hostOp op s = .fault .loadTooLarge) ∧
    (op = .readFB ∨ op = .readDraw ∨ op = .readFault → hostOp op s = .next s)

/-- R109: a step returns Ok(beep) with no fault latched, or the latched fault record (the field that
holds what a step returns is the model's, log 2). -/
def Obligations.StepReturnsOkOrFault : Prop :=
  ∀ s t : State, step s = .next t →
    (∃ b, t.result = some (.ok b) ∧ t.fault = none) ∨
    (∃ r, t.result = some (.fault r) ∧ t.fault = some r)

/-- R101, R104 with the fault entry of D6 (log 17): a PC above 4094 raises FetchOutOfBounds with no
word, and a word that matches no pattern raises InvalidOpcode; nothing else changes. -/
def Obligations.FetchAndDecodeFaultsAreTaken : Prop :=
  (∀ s : State, s.fault = none → 4094 < s.pc.toNat →
    s.fetchWord = none ∧ ∃ t, step s = .next t ∧ RaisedFrom s t (.fetchOutOfBounds s.pc)) ∧
  (∀ (s : State) (w : Word) (e : DecodeError), s.fault = none → s.fetchWord = some w →
    decodeWord w = .error e → ∃ t, step s = .next t ∧ RaisedFrom s t (.invalidOpcode w s.pc))

/-- The spec's choice D6 (R110, R212, R213; log 17): a step that faults, whatever the instruction,
latches and returns its record and changes nothing else. -/
def Obligations.FaultingStepCommitsNothing : Prop :=
  ∀ (s t : State) (r : FaultRecord), s.fault = none → step s = .next t → t.fault = some r →
    RaisedFrom s t r.cause

/-- A step faults exactly when the table of R211 says so, in the order of R214, with the table's info
(the spec's choices D5, D7 to D10, log 16; that the record is latched is D6, log 17). -/
def Obligations.FaultsAreThoseOfTheTable : Prop :=
  ∀ s t : State, s.fault = none → step s = .next t →
    t.fault = (stepFault s).map fun c => { cause := c, pc := s.pc, word := s.fetchWord }

/-- The spec's choice D21 (R111; log 17): on a faulted core any number of steps changes nothing and
returns the latched fault. -/
def Obligations.FaultedCoreIsQuiescent : Prop :=
  ∀ (s : State) (r : FaultRecord) (k : Nat), s.fault = some r →
    Host.Core.run Sys2Proof.core (k + 1) s = .next { s with result := some (.fault r) }

/-- R107: on a step that completes and is no key-wait retry, each timer ends one below the value the
instruction left, or at 0. -/
def Obligations.TimersCountDownOncePerStep : Prop :=
  ∀ (s u : State) (w : Word) (i : Instr), s.fault = none → s.fetchWord = some w →
    decodeWord w = .ok i → exec i s = .next u → u.fault = none →
    ((∀ x, i ≠ .ldVxK x) ∨ s.key ≠ 0) →
    ∃ t, step s = .next t ∧ t.dt.toNat = u.dt.toNat - 1 ∧ t.st.toNat = u.st.toNat - 1 ∧
      t.pc = u.pc ∧ t.i = u.i ∧ KeepsV u t ∧ KeepsMemory u t ∧ KeepsStack u t ∧ KeepsScreen u t ∧
      t.key = u.key ∧ t.fault = none

/-- R108: such a step beeps exactly when the sound timer the instruction left is 1 (the beep stands in
the model's result field, log 2). -/
def Obligations.BeepIsTheSoundTimersLastTick : Prop :=
  ∀ (s u : State) (w : Word) (i : Instr), s.fault = none → s.fetchWord = some w →
    decodeWord w = .ok i → exec i s = .next u → u.fault = none →
    ((∀ x, i ≠ .ldVxK x) ∨ s.key ≠ 0) →
    ∃ t, step s = .next t ∧ t.result = some (.ok (decide (u.st.toNat = 1)))

/-- R106, R250: FX0A with no key pressed returns Ok(0) and changes nothing, however often it is stepped;
the timers are frozen (result and rnd input are the model's fields, log 2 and log 3). -/
def Obligations.KeyWaitFreezesTheCore : Prop :=
  ∀ (s : State) (w : Word) (x : Nibble) (k : Nat), s.fault = none → s.fetchWord = some w →
    decodeWord w = .ok (.ldVxK x) → s.key = 0 →
    Host.Core.run Sys2Proof.core (k + 1) s =
      .next { s with result := some (.ok false), rndIn := none }

/-! ### The invariant -/

/-- The state after reset meets the invariant, whatever parameters the core was made with (R8); those of
State.reset are the defaults (log 23). -/
def Obligations.ResetMeetsInvariant : Prop :=
  State.reset = State.resetAt Config.defaults ∧
  ∀ p : Params, (State.resetAt p).Inv ∧ (State.resetAt p).params = p

/-- From every state that meets it, a step of any kind gives a state that meets it: memory stays
canonical, PC stays at most 0x10FE (R26), stack entries stay what a call pushes (R30, R138; D2, log 5), a
latched fault is what was returned (D6, log 17); and the parameters stay (R8, log 23). -/
def Obligations.StepKeepsInvariant : Prop :=
  ∀ s t : State, s.Inv → step s = .next t → t.Inv ∧ t.params = s.params

/-- Every operation of the host keeps the invariant and the parameters, Reset(P) with any image that fits
among them. -/
def Obligations.HostOpsKeepInvariant : Prop :=
  ∀ (op : HostOp) (s t : State), s.Inv → hostOp op s = .next t → t.Inv ∧ t.params = s.params

/-- The canonical form is one per memory: two memories in it that read alike are equal (the form is the
model's, log 10). -/
def Obligations.CanonicalMemoryIsUnique : Prop :=
  ∀ (font : Vector Byte 80) (m m' : Memory), Memory.wf font m → Memory.wf font m' →
    (∀ a, a < 4096 → Memory.peek font m a = Memory.peek font m' a) → m = m'

/-! ### Reset (spec/70_reset_and_hazards.md) -/

/-- R240, R40, R8: Reset(P) with an image that fits gives, from any state, the core's FONT_ROM at 0, the
image at 0x200, zero elsewhere, and every register at its reset value (DRAW is D14, log 14; FAULT is D6,
log 17), the parameters being kept (log 23). -/
def Obligations.ResetConstructsTheState : Prop :=
  ∀ (image : List Byte) (s : State), image.length ≤ 3584 →
    ∃ t, hostOp (.reset image) s = .next t ∧
      (∀ a : Fin 80, t.peek a.val = s.params.fontRom[a.val]) ∧
      (∀ a, 80 ≤ a → a < 0x200 → t.peek a = 0) ∧
      (∀ k, k < image.length → t.peek (0x200 + k) = image.getD k 0) ∧
      (∀ a, 0x200 + image.length ≤ a → a < 4096 → t.peek a = 0) ∧
      (∀ r : Nibble, t.vreg r = 0) ∧ t.i = 0 ∧ t.pc = 0x200 ∧ t.sp.val = 0 ∧
      (∀ k : Fin 16, t.stk[k.val] = 0) ∧ t.dt = 0 ∧ t.st = 0 ∧
      (∀ (y : Fin 32) (x : Fin 64), Frame.pixel t.fb y x = false) ∧
      t.draw = false ∧ t.key = 0 ∧ t.fault = none ∧ t.params = s.params

/-- R241: Reset(P) with a longer image fails with LoadTooLarge, code 8 (R211; D5, log 16), and leaves no
state (the spec's reading D23; that it ends the run as a fault is the model's choice, log 12). -/
def Obligations.OversizedImageIsRefused : Prop :=
  ∀ (image : List Byte) (s : State), 3584 < image.length →
    hostOp (.reset image) s = .fault .loadTooLarge ∧ Fault.loadTooLarge.code = 8 ∧
      loadError (hostOp (.reset image) s) = some 8

/-! ### Rules about the whole machine (spec/10_state.md, spec/20_memory.md) -/

/-- R57: no instruction but FX33 and FX55 writes memory. -/
def Obligations.OnlyStoresWriteMemory : Prop :=
  ∀ (i : Instr) (s t : State), (∀ x, i ≠ .ldB x) → (∀ x, i ≠ .storeRegs x) →
    exec i s = .next t → KeepsMemory s t

/-- R32, R124, R112: no instruction but 00E0 and DXYN changes the framebuffer or the draw flag, and those
two set the draw flag whenever they complete (that a faulting DXYN leaves it is D6, log 17); the host's
ClearDraw clears it and changes nothing else (D19, log 20). -/
def Obligations.OnlyDisplayWritesScreen : Prop :=
  (∀ s : State, hostOp .clearDraw s = .next { s with draw := false }) ∧
  ∀ (i : Instr) (s t : State), exec i s = .next t →
    ((i ≠ .cls → (∀ x y n, i ≠ .drw x y n) → KeepsScreen s t) ∧
     (i = .cls → t.draw = true) ∧
     (∀ x y n, i = .drw x y n → s.fault = none →
       (t.fault = none ∧ t.draw = true) ∨ (t.fault ≠ none ∧ KeepsScreen s t)))

/-- R28: an instruction other than 2NNN and 00EE does the same whatever the stack holds, and leaves
it. -/
def Obligations.OnlyCallAndReturnUseTheStack : Prop :=
  ∀ (i : Instr) (s t : State) (sp : Fin 17) (stk : Vector Word 16),
    i ≠ .ret → (∀ a, i ≠ .call a) → exec i s = .next t →
    KeepsStack s t ∧ exec i { s with sp := sp, stk := stk } = .next { t with sp := sp, stk := stk }

/-- R34, R112, R197 (the spec's choice D18, log 20): the host's SetKeys writes the key latch and nothing
else, no step writes it, and an instruction other than EX9E, EXA1 and FX0A does the same whatever it
holds. -/
def Obligations.KeysAreTheHostsAlone : Prop :=
  (∀ (s : State) (k : BitVec 16), hostOp (.setKeys k) s = .next { s with key := k }) ∧
  (∀ s t : State, step s = .next t → t.key = s.key) ∧
  (∀ (i : Instr) (s t : State) (k : BitVec 16),
    (∀ x, i ≠ .skp x) → (∀ x, i ≠ .sknp x) → (∀ x, i ≠ .ldVxK x) → exec i s = .next t →
    exec i { s with key := k } = .next { t with key := k })

/-- R27: no instruction but ANNN, FX1E, FX29, FX55 and FX65 writes I. -/
def Obligations.OnlyListedInstructionsWriteIndex : Prop :=
  ∀ (i : Instr) (s t : State), ¬ WritesIndex i → exec i s = .next t → t.i = s.i

/-- R22, R23 (a table the spec marks as its own inference): an instruction writes no general register
the table does not list for it; VF is written as a flag by 8XY4 to 8XY7, 8XYE, DXYN and FX1E only. -/
def Obligations.RegisterWritesAreThoseOfTheTable : Prop :=
  ∀ (i : Instr) (s t : State) (r : Nibble), ¬ WritesReg i r → exec i s = .next t →
    t.vreg r = s.vreg r

/-- R139 (an inference of the spec's): an instruction outside its list that completes leaves PC at
A + 2. -/
def Obligations.OnlyControlFlowWritesPc : Prop :=
  ∀ (i : Instr) (s t : State), ¬ WritesPc i → s.fault = none → exec i s = .next t →
    t.fault = none → t.pc = s.pc + 2

/-- R31, R223: no instruction but FX15 writes DT and none but FX18 writes ST; no instruction reads ST,
and none but FX07 reads DT, FX15 and FX18 overwriting what was there. -/
def Obligations.OnlyTimerInstructionsUseTheTimers : Prop :=
  ∀ (i : Instr) (s t : State) (b : Byte), exec i s = .next t →
    ((∀ x, i ≠ .ldDtVx x) → t.dt = s.dt) ∧ ((∀ x, i ≠ .ldStVx x) → t.st = s.st) ∧
    ((∀ x, i ≠ .ldStVx x) → exec i { s with st := b } = .next { t with st := b }) ∧
    (∀ x, i = .ldStVx x → exec i { s with st := b } = .next t) ∧
    (∀ x, i = .ldDtVx x → exec i { s with dt := b } = .next t) ∧
    ((∀ x, i ≠ .ldVxDt x) → (∀ x, i ≠ .ldDtVx x) →
      exec i { s with dt := b } = .next { t with dt := b })

/-! ### Display instructions (spec/41_display.md) -/

/-- R120: 00E0 clears every pixel and sets DRAW. -/
def Obligations.ClsClearsTheScreen : Prop :=
  EncodedAs .cls 0x00E0 0xFFFF ∧ ∀ s : State, ∃ t, exec .cls s = .next t ∧
    (∀ (y : Fin 32) (x : Fin 64), Frame.pixel t.fb y x = false) ∧ t.draw = true ∧
    t.pc = s.pc + 2 ∧ KeepsV s t ∧ t.i = s.i ∧ KeepsMemory s t ∧ KeepsStack s t ∧ KeepsTimers s t ∧
    KeepsLatches s t

/-- R121 with the spec's choices D11 (log 18) and D12 (log 15), and D3 (log 7) for the coordinates when X
or Y is 15, the other orders of U9 as well: DXYN with its rows in memory
inverts exactly the pixels a sprite bit lands on, VF is 1 exactly when one of them was 1, DRAW is 1. -/
def Obligations.DrwXorsTheSprite : Prop :=
  ∀ (x y n : Nibble) (s : State), s.i.toNat + n.toNat ≤ 4096 →
    EncodedAs (.drw x y n) 0xD000 0xF000 ∧
    ∃ t, exec (.drw x y n) s = .next t ∧
      (∀ (py : Fin 32) (px : Fin 64),
        (SpriteCovers s x y n py px → Frame.pixel t.fb py px = !Frame.pixel s.fb py px) ∧
        (¬ SpriteCovers s x y n py px → Frame.pixel t.fb py px = Frame.pixel s.fb py px)) ∧
      ((∃ py px, SpriteCovers s x y n py px ∧ Frame.pixel s.fb py px = true) → t.vreg 15 = 1) ∧
      ((∀ py px, SpriteCovers s x y n py px → Frame.pixel s.fb py px = false) → t.vreg 15 = 0) ∧
      t.draw = true ∧ t.pc = s.pc + 2 ∧ KeepsVBut 15 s t ∧ t.i = s.i ∧ KeepsMemory s t ∧
      KeepsStack s t ∧ KeepsTimers s t ∧ KeepsLatches s t

/-- R123 (an inference of the spec's): drawing the same sprite at the same place twice gives back the
framebuffer, when the first draw left VX and VY. -/
def Obligations.DrwTwiceRestoresTheScreen : Prop :=
  ∀ (x y n : Nibble) (s : State), s.i.toNat + n.toNat ≤ 4096 →
    ∃ t u, exec (.drw x y n) s = .next t ∧ exec (.drw x y n) t = .next u ∧
      (t.vreg x = s.vreg x → t.vreg y = s.vreg y →
        ∀ (py : Fin 32) (px : Fin 64), Frame.pixel u.fb py px = Frame.pixel s.fb py px)

/-! ### Control flow (spec/42_control_flow.md) -/

/-- R132: 1NNN sets PC to NNN and nothing else; a target above 4094 is found out at the next fetch. -/
def Obligations.JpJumps : Prop :=
  ∀ (nnn : Addr12) (s : State), EncodedAs (.jp nnn) 0x1000 0xF000 ∧
    ∃ t, exec (.jp nnn) s = .next t ∧ t.pc.toNat = nnn.toNat ∧ KeepsAllButPc s t ∧
      (4094 < nnn.toNat → t.fetchWord = none)

/-- R140: BNNN sets PC to the exact sum of NNN and V0; a target above 4094 is found out at the next
fetch. -/
def Obligations.JpV0JumpsWithOffset : Prop :=
  ∀ (nnn : Addr12) (s : State), EncodedAs (.jpV0 nnn) 0xB000 0xF000 ∧
    ∃ t, exec (.jpV0 nnn) s = .next t ∧ t.pc.toNat = nnn.toNat + (s.vreg 0).toNat ∧
      KeepsAllButPc s t ∧ (4094 < nnn.toNat + (s.vreg 0).toNat → t.fetchWord = none)

/-- 2NNN with room on the stack pushes the fetch address under P_CALL_LINK = FETCH_ADDR (the default, the
spec's choice D2, log 5) and the fetch address + 2 under ADVANCED_PC (R138), and jumps. -/
def Obligations.CallPushesFetchAddress : Prop :=
  ∀ (nnn : Addr12) (s : State) (h : s.sp.val < 16), EncodedAs (.call nnn) 0x2000 0xF000 ∧
    ∃ t, exec (.call nnn) s = .next t ∧
      (s.params.callLink = .fetchAddr → t.stk[s.sp.val] = s.pc) ∧
      (s.params.callLink = .advancedPc → t.stk[s.sp.val] = s.pc + 2) ∧ t.sp.val = s.sp.val + 1 ∧
      (∀ k : Fin 16, k.val ≠ s.sp.val → t.stk[k.val] = s.stk[k.val]) ∧ t.pc.toNat = nnn.toNat ∧
      KeepsV s t ∧ t.i = s.i ∧ KeepsMemory s t ∧ KeepsTimers s t ∧ KeepsScreen s t ∧ KeepsLatches s t

/-- 00EE with an entry on the stack pops it and continues at the entry + 2; the entry keeps its value
(R131; that the entry is the call's own address is D2, log 5). -/
def Obligations.RetResumesAfterTheCall : Prop :=
  EncodedAs .ret 0x00EE 0xFFFF ∧ ∀ (s : State) (k : Fin 16), s.sp.val = k.val + 1 →
    ∃ t, exec .ret s = .next t ∧ t.sp.val = k.val ∧ t.pc = s.stk[k.val] + 2 ∧ t.stk = s.stk ∧
      KeepsV s t ∧ t.i = s.i ∧ KeepsMemory s t ∧ KeepsTimers s t ∧ KeepsScreen s t ∧ KeepsLatches s t

/-- A push on a full stack raises StackOverflow (the spec's choice D7, log 16), a pop of an empty one
StackUnderflow; nothing else changes (D6, log 17). -/
def Obligations.StackFaultsAreTaken : Prop :=
  (∀ (nnn : Addr12) (s : State), s.sp.val = 16 →
    ∃ t, exec (.call nnn) s = .next t ∧ RaisedFrom s t .stackOverflow) ∧
  (∀ s : State, s.sp.val = 0 → ∃ t, exec .ret s = .next t ∧ RaisedFrom s t .stackUnderflow)

/-- R138: under either value of P_CALL_LINK a call and then a return give back the stack pointer, and
resume at the word after the call under FETCH_ADDR (the default, the spec's choice D2, log 5) and one word
further under ADVANCED_PC. -/
def Obligations.CallThenReturnResumes : Prop :=
  ∀ (nnn : Addr12) (s : State), s.sp.val < 16 →
    ∃ t u, exec (.call nnn) s = .next t ∧ exec .ret t = .next u ∧ u.sp = s.sp ∧
      (s.params.callLink = .fetchAddr → u.pc = s.pc + 2) ∧
      (s.params.callLink = .advancedPc → u.pc = s.pc + 4) ∧ KeepsV s u ∧ KeepsMemory s u

/-- R134, R135: 3XNN skips when VX = NN and 4XNN when not; a skip adds 2 to the advanced PC (R130). -/
def Obligations.ImmediateSkips : Prop :=
  ∀ (x : Nibble) (nn : Byte) (s : State),
    EncodedAs (.seImm x nn) 0x3000 0xF000 ∧ EncodedAs (.sneImm x nn) 0x4000 0xF000 ∧
    (∃ t, exec (.seImm x nn) s = .next t ∧
      t.pc = (if s.vreg x = nn then s.pc + 2 + 2 else s.pc + 2) ∧ KeepsAllButPc s t) ∧
    (∃ t, exec (.sneImm x nn) s = .next t ∧
      t.pc = (if s.vreg x ≠ nn then s.pc + 2 + 2 else s.pc + 2) ∧ KeepsAllButPc s t)

/-- R136, R137: 5XY0 skips when VX = VY and 9XY0 when not (the fixed N = 0 is the spec's choice D4,
log 16). -/
def Obligations.RegisterSkips : Prop :=
  ∀ (x y : Nibble) (s : State),
    EncodedAs (.seReg x y) 0x5000 0xF00F ∧ EncodedAs (.sneReg x y) 0x9000 0xF00F ∧
    (∃ t, exec (.seReg x y) s = .next t ∧
      t.pc = (if s.vreg x = s.vreg y then s.pc + 2 + 2 else s.pc + 2) ∧ KeepsAllButPc s t) ∧
    (∃ t, exec (.sneReg x y) s = .next t ∧
      t.pc = (if s.vreg x ≠ s.vreg y then s.pc + 2 + 2 else s.pc + 2) ∧ KeepsAllButPc s t)

/-! ### Registers and ALU (spec/43_register_alu.md) -/

/-- R150, R152: 6XNN puts NN into VX, 8XY0 puts VY into VX. -/
def Obligations.RegisterLoads : Prop :=
  ∀ (x y : Nibble) (nn : Byte) (s : State),
    EncodedAs (.ldImm x nn) 0x6000 0xF000 ∧ EncodedAs (.ldReg x y) 0x8000 0xF00F ∧
    (∃ t, exec (.ldImm x nn) s = .next t ∧ t.vreg x = nn ∧ t.pc = s.pc + 2 ∧ KeepsVBut x s t ∧
      KeepsOutsideV s t) ∧
    (∃ t, exec (.ldReg x y) s = .next t ∧ t.vreg x = s.vreg y ∧ t.pc = s.pc + 2 ∧ KeepsVBut x s t ∧
      KeepsOutsideV s t)

/-- R153 to R155: 8XY1, 8XY2 and 8XY3 combine VX and VY bit by bit; VF is not written as a flag. -/
def Obligations.LogicInstructions : Prop :=
  ∀ (x y : Nibble) (s : State),
    EncodedAs (.orReg x y) 0x8001 0xF00F ∧ EncodedAs (.andReg x y) 0x8002 0xF00F ∧
    EncodedAs (.xorReg x y) 0x8003 0xF00F ∧
    (∃ t, exec (.orReg x y) s = .next t ∧
      (∀ k < 8, (t.vreg x).getLsbD k = ((s.vreg x).getLsbD k || (s.vreg y).getLsbD k)) ∧
      t.pc = s.pc + 2 ∧ KeepsVBut x s t ∧ KeepsOutsideV s t) ∧
    (∃ t, exec (.andReg x y) s = .next t ∧
      (∀ k < 8, (t.vreg x).getLsbD k = ((s.vreg x).getLsbD k && (s.vreg y).getLsbD k)) ∧
      t.pc = s.pc + 2 ∧ KeepsVBut x s t ∧ KeepsOutsideV s t) ∧
    (∃ t, exec (.xorReg x y) s = .next t ∧
      (∀ k < 8, (t.vreg x).getLsbD k = ((s.vreg x).getLsbD k ^^ (s.vreg y).getLsbD k)) ∧
      t.pc = s.pc + 2 ∧ KeepsVBut x s t ∧ KeepsOutsideV s t)

/-- R151: 7XNN adds NN modulo 256 and writes no flag. -/
def Obligations.AddImmediateWrapsWithoutFlag : Prop :=
  ∀ (x : Nibble) (nn : Byte) (s : State), EncodedAs (.addImm x nn) 0x7000 0xF000 ∧
    ∃ t, exec (.addImm x nn) s = .next t ∧
      (t.vreg x).toNat = ((s.vreg x).toNat + nn.toNat) % 256 ∧ t.pc = s.pc + 2 ∧ KeepsVBut x s t ∧
      KeepsOutsideV s t

/-- R156: 8XY4 adds modulo 256 and VF is the carry; with X or Y = 15 they end as P_VF_ORDER says (U9),
with X = 15 VF being the sum at the default (the spec's choice D3, log 7). -/
def Obligations.AddRegistersSetsCarry : Prop :=
  ∀ (x y : Nibble) (s : State), EncodedAs (.addReg x y) 0x8004 0xF00F ∧
    ∃ t, exec (.addReg x y) s = .next t ∧
      (∀ c : Byte, (c = if 255 < (s.vreg x).toNat + (s.vreg y).toNat then 1 else 0) →
        FlagThenData s t x c (BitVec.ofNat 8 ((s.vreg x).toNat + (s.vreg y).toNat))
          (BitVec.ofNat 8 ((s.readAgain c x).toNat + (s.readAgain c y).toNat))) ∧
      (∀ r : Nibble, r ≠ x → r ≠ 15 → t.vreg r = s.vreg r) ∧ t.pc = s.pc + 2 ∧ KeepsOutsideV s t

/-- R157, R159: 8XY5 is VX - VY and 8XY7 is VY - VX, modulo 256, and VF is 1 when the minuend is the
greater; for equal operands it is P_SUB_EQ_FLAG (0 at the default, the spec's choice D26, log 6); with X or
Y = 15 they end as P_VF_ORDER says (U9), with X = 15 VF being the difference at the default (D3, log 7). -/
def Obligations.SubtractionsSetNoBorrow : Prop :=
  ∀ (x y : Nibble) (s : State),
    EncodedAs (.subReg x y) 0x8005 0xF00F ∧ EncodedAs (.subnReg x y) 0x8007 0xF00F ∧
    (∃ t, exec (.subReg x y) s = .next t ∧
      (∀ c : Byte, (c = if (s.vreg y).toNat < (s.vreg x).toNat ∨
            (s.vreg x = s.vreg y ∧ s.params.subEqFlag = true) then 1 else 0) →
        FlagThenData s t x c (BitVec.ofNat 8 ((s.vreg x).toNat + 256 - (s.vreg y).toNat))
          (BitVec.ofNat 8 ((s.readAgain c x).toNat + 256 - (s.readAgain c y).toNat))) ∧
      (∀ r : Nibble, r ≠ x → r ≠ 15 → t.vreg r = s.vreg r) ∧ t.pc = s.pc + 2 ∧ KeepsOutsideV s t) ∧
    (∃ t, exec (.subnReg x y) s = .next t ∧
      (∀ c : Byte, (c = if (s.vreg x).toNat < (s.vreg y).toNat ∨
            (s.vreg x = s.vreg y ∧ s.params.subEqFlag = true) then 1 else 0) →
        FlagThenData s t x c (BitVec.ofNat 8 ((s.vreg y).toNat + 256 - (s.vreg x).toNat))
          (BitVec.ofNat 8 ((s.readAgain c y).toNat + 256 - (s.readAgain c x).toNat))) ∧
      (∀ r : Nibble, r ≠ x → r ≠ 15 → t.vreg r = s.vreg r) ∧ t.pc = s.pc + 2 ∧ KeepsOutsideV s t)

/-- R158, R160, R83: 8XY6 and 8XYE shift VX by one whatever Y is, and VF is the bit shifted out; with
X = 15 VF ends as P_VF_ORDER says (U9), the shifted value at the default (the spec's choice D3, log 7). -/
def Obligations.ShiftsDropTheirBitIntoVf : Prop :=
  ∀ (x y : Nibble) (s : State),
    EncodedAs (.shr x y) 0x8006 0xF00F ∧ EncodedAs (.shl x y) 0x800E 0xF00F ∧
    (∃ t, exec (.shr x y) s = .next t ∧
      (∀ c : Byte, c.toNat = (s.vreg x).toNat % 2 →
        FlagThenData s t x c (BitVec.ofNat 8 ((s.vreg x).toNat / 2))
          (BitVec.ofNat 8 ((s.readAgain c x).toNat / 2))) ∧
      (∀ r : Nibble, r ≠ x → r ≠ 15 → t.vreg r = s.vreg r) ∧ t.pc = s.pc + 2 ∧ KeepsOutsideV s t) ∧
    (∃ t, exec (.shl x y) s = .next t ∧
      (∀ c : Byte, c.toNat = (s.vreg x).toNat / 128 →
        FlagThenData s t x c (BitVec.ofNat 8 (2 * (s.vreg x).toNat))
          (BitVec.ofNat 8 (2 * (s.readAgain c x).toNat))) ∧
      (∀ r : Nibble, r ≠ x → r ≠ 15 → t.vreg r = s.vreg r) ∧ t.pc = s.pc + 2 ∧ KeepsOutsideV s t)

/-- R161 with the spec's choice D16 (log 3): CXNN puts a random byte masked by NN into VX, the byte the
host named when it named one, so that every value within the mask can occur; and the host's Step(rnd) that
fetches it ends with VX = rnd AND NN (R112). -/
def Obligations.RndMasksTheRandomByte : Prop :=
  ∀ (x : Nibble) (nn : Byte) (s : State), EncodedAs (.rnd x nn) 0xC000 0xF000 ∧
    (∃ t, exec (.rnd x nn) s = .next t ∧ t.vreg x &&& ~~~nn = 0 ∧
      (∀ b, s.rndIn = some b → t.vreg x = b &&& nn) ∧ t.pc = s.pc + 2 ∧ KeepsVBut x s t ∧
      t.i = s.i ∧ KeepsMemory s t ∧ KeepsStack s t ∧ KeepsTimers s t ∧ KeepsScreen s t ∧
      t.key = s.key ∧ t.fault = s.fault ∧ t.params = s.params ∧ t.result = s.result ∧
      t.rndIn = s.rndIn) ∧
    ∀ b : Byte, s.fault = none → s.fetchWord = some (encode (.rnd x nn)) →
      ∃ u, hostOp (.step b) s = .next u ∧ u.vreg x = b &&& nn ∧ u.pc = s.pc + 2 ∧ u.fault = none

/-! ### Index register and memory (spec/44_index_memory.md) -/

/-- R170: ANNN puts NNN into I. -/
def Obligations.LdIndexLoadsAddress : Prop :=
  ∀ (nnn : Addr12) (s : State), EncodedAs (.ldI nnn) 0xA000 0xF000 ∧
    ∃ t, exec (.ldI nnn) s = .next t ∧ t.i.toNat = nnn.toNat ∧ t.pc = s.pc + 2 ∧ KeepsV s t ∧
      KeepsMemory s t ∧ KeepsStack s t ∧ KeepsTimers s t ∧ KeepsScreen s t ∧ KeepsLatches s t

/-- R171: FX1E adds VX to I exactly, VF is the carry past 0xFFF (with X = 15 the old VF is added, D3,
log 7); a sum past 0xFFFF raises IndexOverflow (the spec's choice D9, log 16), which changes nothing else
(D6, log 17). -/
def Obligations.AddIndexCarriesPast0xFFF : Prop :=
  ∀ (x : Nibble) (s : State), EncodedAs (.addI x) 0xF01E 0xF0FF ∧
    (s.i.toNat + (s.vreg x).toNat ≤ 0xFFFF →
      ∃ t, exec (.addI x) s = .next t ∧ t.i.toNat = s.i.toNat + (s.vreg x).toNat ∧
        t.vreg 15 = (if 0xFFF < s.i.toNat + (s.vreg x).toNat then 1 else 0) ∧ t.pc = s.pc + 2 ∧
        KeepsVBut 15 s t ∧ KeepsMemory s t ∧ KeepsStack s t ∧ KeepsTimers s t ∧ KeepsScreen s t ∧
        KeepsLatches s t) ∧
    (0xFFFF < s.i.toNat + (s.vreg x).toNat →
      ∃ t, exec (.addI x) s = .next t ∧ RaisedFrom s t (.indexOverflow s.i (s.vreg x)))

/-- R172: FX29 puts VX times 5 into I, VX not masked (the spec's choice D17, log 19). -/
def Obligations.LdFontPointsAtGlyph : Prop :=
  ∀ (x : Nibble) (s : State), EncodedAs (.ldF x) 0xF029 0xF0FF ∧
    ∃ t, exec (.ldF x) s = .next t ∧ t.i.toNat = (s.vreg x).toNat * 5 ∧ t.pc = s.pc + 2 ∧
      KeepsV s t ∧ KeepsMemory s t ∧ KeepsStack s t ∧ KeepsTimers s t ∧ KeepsScreen s t ∧
      KeepsLatches s t

/-- R173: FX33 with I to I+2 in memory stores the three decimal digits of VX there (the range check is
the spec's choice D10, log 16). -/
def Obligations.BcdStoresThreeDigits : Prop :=
  ∀ (x : Nibble) (s : State), s.i.toNat + 3 ≤ 4096 → EncodedAs (.ldB x) 0xF033 0xF0FF ∧
    ∃ t, exec (.ldB x) s = .next t ∧
      (t.peek s.i.toNat).toNat = (s.vreg x).toNat / 100 ∧
      (t.peek (s.i.toNat + 1)).toNat = (s.vreg x).toNat / 10 % 10 ∧
      (t.peek (s.i.toNat + 2)).toNat = (s.vreg x).toNat % 10 ∧
      KeepsMemoryOutside s.i.toNat 3 s t ∧ t.pc = s.pc + 2 ∧ KeepsV s t ∧ t.i = s.i ∧
      KeepsStack s t ∧ KeepsTimers s t ∧ KeepsScreen s t ∧ KeepsLatches s t

/-- R174: FX55 with its range in memory stores V0 to VX at I and above and advances I by X + 1 (the
range check is the spec's choice D10, log 16). -/
def Obligations.StoreRegistersFillsMemory : Prop :=
  ∀ (x : Nibble) (s : State), s.i.toNat + x.toNat + 1 ≤ 4096 →
    EncodedAs (.storeRegs x) 0xF055 0xF0FF ∧
    ∃ t, exec (.storeRegs x) s = .next t ∧
      (∀ k : Nibble, k.toNat ≤ x.toNat → t.peek (s.i.toNat + k.toNat) = s.vreg k) ∧
      KeepsMemoryOutside s.i.toNat (x.toNat + 1) s t ∧ t.i.toNat = s.i.toNat + x.toNat + 1 ∧
      t.pc = s.pc + 2 ∧ KeepsV s t ∧ KeepsStack s t ∧ KeepsTimers s t ∧ KeepsScreen s t ∧
      KeepsLatches s t

/-- R175: FX65 with its range in memory loads V0 to VX from I and above and advances I by X + 1;
registers above X are unchanged (the range check is the spec's choice D10, log 16). -/
def Obligations.LoadRegistersReadsMemory : Prop :=
  ∀ (x : Nibble) (s : State), s.i.toNat + x.toNat + 1 ≤ 4096 →
    EncodedAs (.loadRegs x) 0xF065 0xF0FF ∧
    ∃ t, exec (.loadRegs x) s = .next t ∧
      (∀ k : Nibble, k.toNat ≤ x.toNat → t.vreg k = s.peek (s.i.toNat + k.toNat)) ∧
      (∀ k : Nibble, x.toNat < k.toNat → t.vreg k = s.vreg k) ∧
      t.i.toNat = s.i.toNat + x.toNat + 1 ∧ t.pc = s.pc + 2 ∧ KeepsMemory s t ∧ KeepsStack s t ∧
      KeepsTimers s t ∧ KeepsScreen s t ∧ KeepsLatches s t

/-- R53 (the spec's choice D10, log 16): DXYN, FX33, FX55 and FX65 whose range reaches past memory raise
MemoryOutOfBounds with I and the length, and change nothing else (D6, log 17). -/
def Obligations.RangeFaultsAreTaken : Prop :=
  ∀ (x y n : Nibble) (s : State),
    (4096 < s.i.toNat + n.toNat →
      ∃ t, exec (.drw x y n) s = .next t ∧ RaisedFrom s t (.memoryOutOfBounds s.i n.toNat)) ∧
    (4096 < s.i.toNat + 3 →
      ∃ t, exec (.ldB x) s = .next t ∧ RaisedFrom s t (.memoryOutOfBounds s.i 3)) ∧
    (4096 < s.i.toNat + (x.toNat + 1) →
      (∃ t, exec (.storeRegs x) s = .next t ∧
        RaisedFrom s t (.memoryOutOfBounds s.i (x.toNat + 1))) ∧
      (∃ t, exec (.loadRegs x) s = .next t ∧
        RaisedFrom s t (.memoryOutOfBounds s.i (x.toNat + 1))))

/-- R176 (an inference of the spec's): FX65 from the address FX55 stored to, with those bytes unchanged
in between, restores V0 to VX, and both leave I past the range. -/
def Obligations.StoreLoadRoundTrip : Prop :=
  ∀ (x : Nibble) (s : State), s.i.toNat + x.toNat + 1 ≤ 4096 →
    ∃ t, exec (.storeRegs x) s = .next t ∧ t.i.toNat = s.i.toNat + x.toNat + 1 ∧
      ∀ u : State, u.i = s.i →
        (∀ a, s.i.toNat ≤ a → a ≤ s.i.toNat + x.toNat → u.peek a = t.peek a) →
        ∃ v, exec (.loadRegs x) u = .next v ∧ v.i = t.i ∧
          ∀ k : Nibble, k.toNat ≤ x.toNat → v.vreg k = s.vreg k

/-- R62, R249 (an inference of the spec's): when FX55 stores over the two bytes at the next PC, the next
step fetches what was stored. -/
def Obligations.StoreIsSeenByTheNextFetch : Prop :=
  ∀ (x j : Nibble) (s : State), s.i.toNat + x.toNat + 1 ≤ 4096 → j.toNat + 1 ≤ x.toNat →
    s.pc.toNat + 2 = s.i.toNat + j.toNat →
    ∃ t, exec (.storeRegs x) s = .next t ∧
      (endStep (.storeRegs x) s t).fetchWord = some (wordOfBytes (s.vreg j) (s.vreg (j + 1)))

/-! ### Input and timers (spec/45_input_timers.md) -/

/-- R190, R191: with VX at most 15, EX9E skips when key VX is pressed and EXA1 when it is not; a VX above
15 raises KeyIndexOutOfRange (the spec's choice D8, log 16), which changes nothing else (D6, log 17). -/
def Obligations.KeySkips : Prop :=
  ∀ (x : Nibble) (s : State),
    EncodedAs (.skp x) 0xE09E 0xF0FF ∧ EncodedAs (.sknp x) 0xE0A1 0xF0FF ∧
    ((s.vreg x).toNat ≤ 15 →
      (∃ t, exec (.skp x) s = .next t ∧
        t.pc = (if s.key.getLsbD (s.vreg x).toNat = true then s.pc + 2 + 2 else s.pc + 2) ∧
        KeepsAllButPc s t) ∧
      (∃ t, exec (.sknp x) s = .next t ∧
        t.pc = (if s.key.getLsbD (s.vreg x).toNat = false then s.pc + 2 + 2 else s.pc + 2) ∧
        KeepsAllButPc s t)) ∧
    (15 < (s.vreg x).toNat →
      (∃ t, exec (.skp x) s = .next t ∧ RaisedFrom s t (.keyIndexOutOfRange (s.vreg x))) ∧
      (∃ t, exec (.sknp x) s = .next t ∧ RaisedFrom s t (.keyIndexOutOfRange (s.vreg x))))

/-- R192, R194, and FX18 with them: FX07 reads DT, FX15 and FX18 write DT and ST; with no fault latched
the end of the same step counts the value left down once. -/
def Obligations.TimerInstructions : Prop :=
  ∀ (x : Nibble) (s : State),
    EncodedAs (.ldVxDt x) 0xF007 0xF0FF ∧ EncodedAs (.ldDtVx x) 0xF015 0xF0FF ∧
    EncodedAs (.ldStVx x) 0xF018 0xF0FF ∧
    (∃ t, exec (.ldVxDt x) s = .next t ∧ t.vreg x = s.dt ∧ t.pc = s.pc + 2 ∧ KeepsVBut x s t ∧
      KeepsOutsideV s t ∧
      (s.fault = none → (endStep (.ldVxDt x) s t).dt.toNat = s.dt.toNat - 1)) ∧
    (∃ t, exec (.ldDtVx x) s = .next t ∧ t.dt = s.vreg x ∧ t.st = s.st ∧ t.pc = s.pc + 2 ∧
      KeepsV s t ∧ t.i = s.i ∧ KeepsMemory s t ∧ KeepsStack s t ∧ KeepsScreen s t ∧
      KeepsLatches s t ∧
      (s.fault = none → (endStep (.ldDtVx x) s t).dt.toNat = (s.vreg x).toNat - 1)) ∧
    (∃ t, exec (.ldStVx x) s = .next t ∧ t.st = s.vreg x ∧ t.dt = s.dt ∧ t.pc = s.pc + 2 ∧
      KeepsV s t ∧ t.i = s.i ∧ KeepsMemory s t ∧ KeepsStack s t ∧ KeepsScreen s t ∧
      KeepsLatches s t ∧
      (s.fault = none → (endStep (.ldStVx x) s t).st.toNat = (s.vreg x).toNat - 1))

/-- R193: FX0A with a key pressed puts the highest pressed key's number into VX; with none pressed it
leaves the state as it was, PC at A, and its step returns Ok(0) without the timer phase (the result
field is the model's, log 2). -/
def Obligations.KeyReadTakesHighestKey : Prop :=
  ∀ (x : Nibble) (s : State), EncodedAs (.ldVxK x) 0xF00A 0xF0FF ∧
    (s.key ≠ 0 →
      ∃ t k, exec (.ldVxK x) s = .next t ∧ k < 16 ∧ s.key.getLsbD k = true ∧
        (∀ j, k < j → j < 16 → s.key.getLsbD j = false) ∧ (t.vreg x).toNat = k ∧
        t.pc = s.pc + 2 ∧ KeepsVBut x s t ∧ KeepsOutsideV s t ∧
        (s.fault = none → (endStep (.ldVxK x) s t).dt.toNat = s.dt.toNat - 1 ∧
          (endStep (.ldVxK x) s t).st.toNat = s.st.toNat - 1)) ∧
    (s.key = 0 →
      ∃ t, exec (.ldVxK x) s = .next t ∧ t.pc = s.pc ∧ KeepsV s t ∧ KeepsOutsideV s t ∧
        (s.fault = none → (endStep (.ldVxK x) s t).dt = s.dt ∧
          (endStep (.ldVxK x) s t).st = s.st ∧
          (endStep (.ldVxK x) s t).result = some (.ok false)))
end

