-- ==== Sys2Proof/Laws/Core.lean ====
section
/-!
SUPPORT. Runs of the machine as the host takes it, in the model's own names.
-/

namespace Sys2Proof.Machine

/-- No step: the state itself. -/
theorem core_run_zero (s : State) : Host.Core.run Sys2Proof.core 0 s = .next s := rfl

/-- One step more: the rest of the run goes on from the state the first step answers. -/
theorem core_run_succ (k : Nat) (s t : State) (h : step s = .next t) :
    Host.Core.run Sys2Proof.core (k + 1) s = Host.Core.run Sys2Proof.core k t := by
  have h' : Sys2Proof.core.step s = Host.Outcome.next t := h
  simp only [Host.Core.run]
  rw [h']

end Sys2Proof.Machine
end

