-- ==== Sys2Proof/Laws/Memory.lean ====
section
/-!
SUPPORT. The laws of memory: what a read gives after a write, at the written address and elsewhere, and
that every memory operation keeps the canonical form.
-/

namespace Sys2Proof.Machine

variable {font : Vector Byte 80}

theorem Memory.peek_forget (m : Memory) (a c : Nat) :
    Memory.peek font (Memory.forget m a) c =
      if c = a then Memory.resetByte font c else Memory.peek font m c := by
  induction m with
  | nil => simp [Memory.forget, Memory.peek]
  | cons e m ih =>
    obtain ⟨k, b⟩ := e
    simp only [Memory.forget] at ih
    by_cases hk : k = a
    · subst hk
      simp only [Memory.forget, List.filter_cons, bne_self_eq_false, Bool.false_eq_true, if_false, ih,
        Memory.peek]
      split <;> simp_all
    · have hb : (k != a) = true := by simpa using hk
      simp only [Memory.forget, List.filter_cons, hb, if_true, Memory.peek, ih]
      split
      · split <;> simp_all
      · rfl

theorem Memory.peek_place (m : Memory) (a c : Nat) (b : Byte)
    (h : ∀ e ∈ m, e.1 ≠ a) :
    Memory.peek font (Memory.place m a b) c = if c = a then b else Memory.peek font m c := by
  induction m with
  | nil => simp [Memory.place, Memory.peek]
  | cons e m ih =>
    obtain ⟨k, d⟩ := e
    have hk : k ≠ a := h (k, d) (by simp)
    have ih' := ih fun e he => h e (by simp [he])
    simp only [Memory.place]
    split
    · simp [Memory.peek]
    · simp only [Memory.peek, ih']
      split <;> simp_all

/-- Read after write (R60): the byte written at its address, and every other address as before. -/
theorem Memory.peek_poke (m : Memory) (a c : Nat) (b : Byte) :
    Memory.peek font (Memory.poke font m a b) c = if c = a then b else Memory.peek font m c := by
  unfold Memory.poke
  split
  · rw [Memory.peek_forget]
    split <;> simp_all
  · rw [Memory.peek_place _ _ _ _ (by simp [Memory.forget]), Memory.peek_forget]
    split <;> simp_all

/-- Outside the bytes written, a run of writes leaves every byte. -/
theorem Memory.peek_pokeAll_outside (bs : List Byte) (m : Memory) (a c : Nat)
    (h : c < a ∨ a + bs.length ≤ c) :
    Memory.peek font (Memory.pokeAll font m a bs) c = Memory.peek font m c := by
  induction bs generalizing m a with
  | nil => rfl
  | cons b bs ih =>
    have hc : c ≠ a := by simp only [List.length_cons] at h; omega
    rw [Memory.pokeAll, ih _ _ (by simp only [List.length_cons] at h; omega), Memory.peek_poke, if_neg hc]

/-- A run of writes puts the k-th byte at the k-th address. -/
theorem Memory.peek_pokeAll_inside (bs : List Byte) (m : Memory) (a k : Nat) (h : k < bs.length) :
    Memory.peek font (Memory.pokeAll font m a bs) (a + k) = bs[k] := by
  induction bs generalizing m a k with
  | nil => simp at h
  | cons b bs ih =>
    rw [Memory.pokeAll]
    cases k with
    | zero => rw [Memory.peek_pokeAll_outside _ _ _ _ (by omega), Memory.peek_poke]; simp
    | succ k =>
      rw [show a + (k + 1) = a + 1 + k by omega, ih _ _ _ (by simpa using h)]
      simp

/-! ### The canonical form -/

theorem Memory.forget_wf (m : Memory) (a : Nat) (h : Memory.wf font m) : Memory.wf font (Memory.forget m a) :=
  ⟨h.1.filter _, fun c hc => h.2 c (List.mem_filter.mp hc).1⟩

theorem Memory.mem_place (m : Memory) (a : Nat) (b : Byte) (c : Host.Cell) :
    c ∈ Memory.place m a b ↔ c = (a, b) ∨ c ∈ m := by
  induction m with
  | nil => simp [Memory.place]
  | cons e m ih =>
    obtain ⟨k, d⟩ := e
    simp only [Memory.place]
    split
    · simp
    · simp only [List.mem_cons, ih]
      tauto

theorem Memory.place_sorted (m : Memory) (a : Nat) (b : Byte)
    (hs : m.Pairwise (fun c d => c.1 < d.1)) (h : ∀ e ∈ m, e.1 ≠ a) :
    (Memory.place m a b).Pairwise (fun c d => c.1 < d.1) := by
  induction m with
  | nil => simp [Memory.place]
  | cons e m ih =>
    obtain ⟨k, d⟩ := e
    rw [List.pairwise_cons] at hs
    simp only [Memory.place]
    split
    · rename_i hlt
      refine List.pairwise_cons.mpr ⟨fun c hc => ?_, List.pairwise_cons.mpr hs⟩
      rcases List.mem_cons.mp hc with rfl | hc
      · exact hlt
      · exact lt_trans hlt (hs.1 c hc)
    · rename_i hlt
      have hk : k ≠ a := h (k, d) (by simp)
      refine List.pairwise_cons.mpr ⟨fun c hc => ?_, ih hs.2 fun e he => h e (by simp [he])⟩
      rcases (Memory.mem_place m a b c).mp hc with rfl | hc
      · exact show k < a by omega
      · exact hs.1 c hc

/-- A write inside memory keeps the canonical form. -/
theorem Memory.poke_wf (m : Memory) (a : Nat) (b : Byte) (h : Memory.wf font m)
    (ha : a < Config.memSize) : Memory.wf font (Memory.poke font m a b) := by
  unfold Memory.poke
  split
  · exact Memory.forget_wf m a h
  · rename_i hb
    have hf := Memory.forget_wf m a h
    refine ⟨Memory.place_sorted _ _ _ hf.1 (by simp [Memory.forget]), fun c hc => ?_⟩
    rcases (Memory.mem_place _ _ _ _).mp hc with rfl | hc
    · exact ⟨ha, hb⟩
    · exact hf.2 c hc

/-- A run of writes inside memory keeps the canonical form. -/
theorem Memory.pokeAll_wf (bs : List Byte) (m : Memory) (a : Nat) (h : Memory.wf font m)
    (ha : a + bs.length ≤ Config.memSize) : Memory.wf font (Memory.pokeAll font m a bs) := by
  induction bs generalizing m a with
  | nil => exact h
  | cons b bs ih =>
    simp only [List.length_cons] at ha
    exact ih _ _ (Memory.poke_wf m a b h (by omega)) (by omega)

theorem Memory.nil_wf : Memory.wf font [] := ⟨List.Pairwise.nil, by simp⟩

/-- Writing what the reset image holds into empty memory lists nothing. -/
theorem Memory.poke_nil_resetByte (a : Nat) :
    Memory.poke font [] a (Memory.resetByte font a) = [] := by
  simp [Memory.poke, Memory.forget]

/-- Writing a run of the reset image's bytes into empty memory lists nothing. -/
theorem Memory.pokeAll_nil_resetBytes (bs : List Byte) (a : Nat)
    (h : ∀ k, (hk : k < bs.length) → bs[k] = Memory.resetByte font (a + k)) :
    Memory.pokeAll font [] a bs = [] := by
  induction bs generalizing a with
  | nil => rfl
  | cons b bs ih =>
    have hb : b = Memory.resetByte font a := h 0 (Nat.succ_pos _)
    rw [Memory.pokeAll, hb, Memory.poke_nil_resetByte]
    refine ih _ fun k hk => ?_
    rw [show a + 1 + k = a + (k + 1) by omega]
    exact h (k + 1) (Nat.succ_lt_succ hk)

/-- R59: the reset image holds the font at 0 to 79 and zero from there on. -/
theorem Memory.resetByte_font (a : Fin 80) : Memory.resetByte font a.val = font[a.val] := by
  simp [Memory.resetByte, Config.fontBase]

theorem Memory.resetByte_zero (a : Nat) (h : 80 ≤ a) : Memory.resetByte font a = 0 := by
  simp [Memory.resetByte, Config.fontBase, h]

/-- R240: copying the font into empty memory lists nothing, the reset image holding it already. -/
theorem Memory.pokeAll_nil_font : Memory.pokeAll font [] Config.fontBase font.toList = [] := by
  refine Memory.pokeAll_nil_resetBytes _ _ fun k hk => ?_
  simp [Memory.resetByte, Config.fontBase] at hk ⊢
  simp [hk]

end Sys2Proof.Machine
end

