-- ==== Sys2Proof/Laws/State.lean ====
section
/-!
SUPPORT. One lemma per field per update of `State`, each true by definition, so that no later proof
unfolds a record update.
-/

namespace Sys2Proof.Machine

variable (s : State)

/-! ### `State.setV` -/

@[simp] theorem State.setV_mem (x : Nibble) (b : Byte) :
    (s.setV x b).mem = s.mem := rfl
@[simp] theorem State.setV_peek (x : Nibble) (b : Byte) (j : Nat) :
    (s.setV x b).peek j = s.peek j := rfl
@[simp] theorem State.setV_v (x : Nibble) (b : Byte) :
    (s.setV x b).v = s.v.set x.toNat b x.isLt := rfl
@[simp] theorem State.setV_i (x : Nibble) (b : Byte) :
    (s.setV x b).i = s.i := rfl
@[simp] theorem State.setV_pc (x : Nibble) (b : Byte) :
    (s.setV x b).pc = s.pc := rfl
@[simp] theorem State.setV_sp (x : Nibble) (b : Byte) :
    (s.setV x b).sp = s.sp := rfl
@[simp] theorem State.setV_stk (x : Nibble) (b : Byte) :
    (s.setV x b).stk = s.stk := rfl
@[simp] theorem State.setV_dt (x : Nibble) (b : Byte) :
    (s.setV x b).dt = s.dt := rfl
@[simp] theorem State.setV_st (x : Nibble) (b : Byte) :
    (s.setV x b).st = s.st := rfl
@[simp] theorem State.setV_fb (x : Nibble) (b : Byte) :
    (s.setV x b).fb = s.fb := rfl
@[simp] theorem State.setV_draw (x : Nibble) (b : Byte) :
    (s.setV x b).draw = s.draw := rfl
@[simp] theorem State.setV_key (x : Nibble) (b : Byte) :
    (s.setV x b).key = s.key := rfl
@[simp] theorem State.setV_fault (x : Nibble) (b : Byte) :
    (s.setV x b).fault = s.fault := rfl
@[simp] theorem State.setV_params (x : Nibble) (b : Byte) :
    (s.setV x b).params = s.params := rfl
@[simp] theorem State.setV_result (x : Nibble) (b : Byte) :
    (s.setV x b).result = s.result := rfl
@[simp] theorem State.setV_rndIn (x : Nibble) (b : Byte) :
    (s.setV x b).rndIn = s.rndIn := rfl
@[simp] theorem State.setV_draws (x : Nibble) (b : Byte) :
    (s.setV x b).draws = s.draws := rfl

/-! ### `State.setI` -/

@[simp] theorem State.setI_mem (w : Word) :
    (s.setI w).mem = s.mem := rfl
@[simp] theorem State.setI_peek (w : Word) (j : Nat) :
    (s.setI w).peek j = s.peek j := rfl
@[simp] theorem State.setI_v (w : Word) :
    (s.setI w).v = s.v := rfl
@[simp] theorem State.setI_i (w : Word) :
    (s.setI w).i = w := rfl
@[simp] theorem State.setI_pc (w : Word) :
    (s.setI w).pc = s.pc := rfl
@[simp] theorem State.setI_sp (w : Word) :
    (s.setI w).sp = s.sp := rfl
@[simp] theorem State.setI_stk (w : Word) :
    (s.setI w).stk = s.stk := rfl
@[simp] theorem State.setI_dt (w : Word) :
    (s.setI w).dt = s.dt := rfl
@[simp] theorem State.setI_st (w : Word) :
    (s.setI w).st = s.st := rfl
@[simp] theorem State.setI_fb (w : Word) :
    (s.setI w).fb = s.fb := rfl
@[simp] theorem State.setI_draw (w : Word) :
    (s.setI w).draw = s.draw := rfl
@[simp] theorem State.setI_key (w : Word) :
    (s.setI w).key = s.key := rfl
@[simp] theorem State.setI_fault (w : Word) :
    (s.setI w).fault = s.fault := rfl
@[simp] theorem State.setI_params (w : Word) :
    (s.setI w).params = s.params := rfl
@[simp] theorem State.setI_result (w : Word) :
    (s.setI w).result = s.result := rfl
@[simp] theorem State.setI_rndIn (w : Word) :
    (s.setI w).rndIn = s.rndIn := rfl
@[simp] theorem State.setI_draws (w : Word) :
    (s.setI w).draws = s.draws := rfl
@[simp] theorem State.setI_vreg (w : Word) (r : Nibble) :
    (s.setI w).vreg r = s.vreg r := rfl

/-! ### `State.setDt` -/

@[simp] theorem State.setDt_mem (b : Byte) :
    (s.setDt b).mem = s.mem := rfl
@[simp] theorem State.setDt_peek (b : Byte) (j : Nat) :
    (s.setDt b).peek j = s.peek j := rfl
@[simp] theorem State.setDt_v (b : Byte) :
    (s.setDt b).v = s.v := rfl
@[simp] theorem State.setDt_i (b : Byte) :
    (s.setDt b).i = s.i := rfl
@[simp] theorem State.setDt_pc (b : Byte) :
    (s.setDt b).pc = s.pc := rfl
@[simp] theorem State.setDt_sp (b : Byte) :
    (s.setDt b).sp = s.sp := rfl
@[simp] theorem State.setDt_stk (b : Byte) :
    (s.setDt b).stk = s.stk := rfl
@[simp] theorem State.setDt_dt (b : Byte) :
    (s.setDt b).dt = b := rfl
@[simp] theorem State.setDt_st (b : Byte) :
    (s.setDt b).st = s.st := rfl
@[simp] theorem State.setDt_fb (b : Byte) :
    (s.setDt b).fb = s.fb := rfl
@[simp] theorem State.setDt_draw (b : Byte) :
    (s.setDt b).draw = s.draw := rfl
@[simp] theorem State.setDt_key (b : Byte) :
    (s.setDt b).key = s.key := rfl
@[simp] theorem State.setDt_fault (b : Byte) :
    (s.setDt b).fault = s.fault := rfl
@[simp] theorem State.setDt_params (b : Byte) :
    (s.setDt b).params = s.params := rfl
@[simp] theorem State.setDt_result (b : Byte) :
    (s.setDt b).result = s.result := rfl
@[simp] theorem State.setDt_rndIn (b : Byte) :
    (s.setDt b).rndIn = s.rndIn := rfl
@[simp] theorem State.setDt_draws (b : Byte) :
    (s.setDt b).draws = s.draws := rfl
@[simp] theorem State.setDt_vreg (b : Byte) (r : Nibble) :
    (s.setDt b).vreg r = s.vreg r := rfl

/-! ### `State.setSt` -/

@[simp] theorem State.setSt_mem (b : Byte) :
    (s.setSt b).mem = s.mem := rfl
@[simp] theorem State.setSt_peek (b : Byte) (j : Nat) :
    (s.setSt b).peek j = s.peek j := rfl
@[simp] theorem State.setSt_v (b : Byte) :
    (s.setSt b).v = s.v := rfl
@[simp] theorem State.setSt_i (b : Byte) :
    (s.setSt b).i = s.i := rfl
@[simp] theorem State.setSt_pc (b : Byte) :
    (s.setSt b).pc = s.pc := rfl
@[simp] theorem State.setSt_sp (b : Byte) :
    (s.setSt b).sp = s.sp := rfl
@[simp] theorem State.setSt_stk (b : Byte) :
    (s.setSt b).stk = s.stk := rfl
@[simp] theorem State.setSt_dt (b : Byte) :
    (s.setSt b).dt = s.dt := rfl
@[simp] theorem State.setSt_st (b : Byte) :
    (s.setSt b).st = b := rfl
@[simp] theorem State.setSt_fb (b : Byte) :
    (s.setSt b).fb = s.fb := rfl
@[simp] theorem State.setSt_draw (b : Byte) :
    (s.setSt b).draw = s.draw := rfl
@[simp] theorem State.setSt_key (b : Byte) :
    (s.setSt b).key = s.key := rfl
@[simp] theorem State.setSt_fault (b : Byte) :
    (s.setSt b).fault = s.fault := rfl
@[simp] theorem State.setSt_params (b : Byte) :
    (s.setSt b).params = s.params := rfl
@[simp] theorem State.setSt_result (b : Byte) :
    (s.setSt b).result = s.result := rfl
@[simp] theorem State.setSt_rndIn (b : Byte) :
    (s.setSt b).rndIn = s.rndIn := rfl
@[simp] theorem State.setSt_draws (b : Byte) :
    (s.setSt b).draws = s.draws := rfl
@[simp] theorem State.setSt_vreg (b : Byte) (r : Nibble) :
    (s.setSt b).vreg r = s.vreg r := rfl

/-! ### `State.storeAt` -/

@[simp] theorem State.storeAt_mem (a : Nat) (bs : List Byte) :
    (s.storeAt a bs).mem = Memory.pokeAll s.params.fontRom s.mem a bs := rfl
@[simp] theorem State.storeAt_v (a : Nat) (bs : List Byte) :
    (s.storeAt a bs).v = s.v := rfl
@[simp] theorem State.storeAt_i (a : Nat) (bs : List Byte) :
    (s.storeAt a bs).i = s.i := rfl
@[simp] theorem State.storeAt_pc (a : Nat) (bs : List Byte) :
    (s.storeAt a bs).pc = s.pc := rfl
@[simp] theorem State.storeAt_sp (a : Nat) (bs : List Byte) :
    (s.storeAt a bs).sp = s.sp := rfl
@[simp] theorem State.storeAt_stk (a : Nat) (bs : List Byte) :
    (s.storeAt a bs).stk = s.stk := rfl
@[simp] theorem State.storeAt_dt (a : Nat) (bs : List Byte) :
    (s.storeAt a bs).dt = s.dt := rfl
@[simp] theorem State.storeAt_st (a : Nat) (bs : List Byte) :
    (s.storeAt a bs).st = s.st := rfl
@[simp] theorem State.storeAt_fb (a : Nat) (bs : List Byte) :
    (s.storeAt a bs).fb = s.fb := rfl
@[simp] theorem State.storeAt_draw (a : Nat) (bs : List Byte) :
    (s.storeAt a bs).draw = s.draw := rfl
@[simp] theorem State.storeAt_key (a : Nat) (bs : List Byte) :
    (s.storeAt a bs).key = s.key := rfl
@[simp] theorem State.storeAt_fault (a : Nat) (bs : List Byte) :
    (s.storeAt a bs).fault = s.fault := rfl
@[simp] theorem State.storeAt_params (a : Nat) (bs : List Byte) :
    (s.storeAt a bs).params = s.params := rfl
@[simp] theorem State.storeAt_result (a : Nat) (bs : List Byte) :
    (s.storeAt a bs).result = s.result := rfl
@[simp] theorem State.storeAt_rndIn (a : Nat) (bs : List Byte) :
    (s.storeAt a bs).rndIn = s.rndIn := rfl
@[simp] theorem State.storeAt_draws (a : Nat) (bs : List Byte) :
    (s.storeAt a bs).draws = s.draws := rfl
@[simp] theorem State.storeAt_vreg (a : Nat) (bs : List Byte) (r : Nibble) :
    (s.storeAt a bs).vreg r = s.vreg r := rfl

/-! ### `State.setFrame` -/

@[simp] theorem State.setFrame_mem (f : Frame) :
    (s.setFrame f).mem = s.mem := rfl
@[simp] theorem State.setFrame_peek (f : Frame) (j : Nat) :
    (s.setFrame f).peek j = s.peek j := rfl
@[simp] theorem State.setFrame_v (f : Frame) :
    (s.setFrame f).v = s.v := rfl
@[simp] theorem State.setFrame_i (f : Frame) :
    (s.setFrame f).i = s.i := rfl
@[simp] theorem State.setFrame_pc (f : Frame) :
    (s.setFrame f).pc = s.pc := rfl
@[simp] theorem State.setFrame_sp (f : Frame) :
    (s.setFrame f).sp = s.sp := rfl
@[simp] theorem State.setFrame_stk (f : Frame) :
    (s.setFrame f).stk = s.stk := rfl
@[simp] theorem State.setFrame_dt (f : Frame) :
    (s.setFrame f).dt = s.dt := rfl
@[simp] theorem State.setFrame_st (f : Frame) :
    (s.setFrame f).st = s.st := rfl
@[simp] theorem State.setFrame_fb (f : Frame) :
    (s.setFrame f).fb = f := rfl
@[simp] theorem State.setFrame_draw (f : Frame) :
    (s.setFrame f).draw = true := rfl
@[simp] theorem State.setFrame_key (f : Frame) :
    (s.setFrame f).key = s.key := rfl
@[simp] theorem State.setFrame_fault (f : Frame) :
    (s.setFrame f).fault = s.fault := rfl
@[simp] theorem State.setFrame_params (f : Frame) :
    (s.setFrame f).params = s.params := rfl
@[simp] theorem State.setFrame_result (f : Frame) :
    (s.setFrame f).result = s.result := rfl
@[simp] theorem State.setFrame_rndIn (f : Frame) :
    (s.setFrame f).rndIn = s.rndIn := rfl
@[simp] theorem State.setFrame_draws (f : Frame) :
    (s.setFrame f).draws = s.draws := rfl
@[simp] theorem State.setFrame_vreg (f : Frame) (r : Nibble) :
    (s.setFrame f).vreg r = s.vreg r := rfl

/-! ### `State.drawn` -/

@[simp] theorem State.drawn_mem :
    (s.drawn).mem = s.mem := rfl
@[simp] theorem State.drawn_peek (j : Nat) :
    (s.drawn).peek j = s.peek j := rfl
@[simp] theorem State.drawn_v :
    (s.drawn).v = s.v := rfl
@[simp] theorem State.drawn_i :
    (s.drawn).i = s.i := rfl
@[simp] theorem State.drawn_pc :
    (s.drawn).pc = s.pc := rfl
@[simp] theorem State.drawn_sp :
    (s.drawn).sp = s.sp := rfl
@[simp] theorem State.drawn_stk :
    (s.drawn).stk = s.stk := rfl
@[simp] theorem State.drawn_dt :
    (s.drawn).dt = s.dt := rfl
@[simp] theorem State.drawn_st :
    (s.drawn).st = s.st := rfl
@[simp] theorem State.drawn_fb :
    (s.drawn).fb = s.fb := rfl
@[simp] theorem State.drawn_draw :
    (s.drawn).draw = s.draw := rfl
@[simp] theorem State.drawn_key :
    (s.drawn).key = s.key := rfl
@[simp] theorem State.drawn_fault :
    (s.drawn).fault = s.fault := rfl
@[simp] theorem State.drawn_params :
    (s.drawn).params = s.params := rfl
@[simp] theorem State.drawn_result :
    (s.drawn).result = s.result := rfl
@[simp] theorem State.drawn_rndIn :
    (s.drawn).rndIn = s.rndIn := rfl
@[simp] theorem State.drawn_draws :
    (s.drawn).draws = s.draws + 1 := rfl
@[simp] theorem State.drawn_vreg (r : Nibble) :
    (s.drawn).vreg r = s.vreg r := rfl

/-! ### `State.setPc` -/

@[simp] theorem State.setPc_mem (w : Word) :
    (s.setPc w).mem = s.mem := rfl
@[simp] theorem State.setPc_peek (w : Word) (j : Nat) :
    (s.setPc w).peek j = s.peek j := rfl
@[simp] theorem State.setPc_v (w : Word) :
    (s.setPc w).v = s.v := rfl
@[simp] theorem State.setPc_i (w : Word) :
    (s.setPc w).i = s.i := rfl
@[simp] theorem State.setPc_pc (w : Word) :
    (s.setPc w).pc = w := rfl
@[simp] theorem State.setPc_sp (w : Word) :
    (s.setPc w).sp = s.sp := rfl
@[simp] theorem State.setPc_stk (w : Word) :
    (s.setPc w).stk = s.stk := rfl
@[simp] theorem State.setPc_dt (w : Word) :
    (s.setPc w).dt = s.dt := rfl
@[simp] theorem State.setPc_st (w : Word) :
    (s.setPc w).st = s.st := rfl
@[simp] theorem State.setPc_fb (w : Word) :
    (s.setPc w).fb = s.fb := rfl
@[simp] theorem State.setPc_draw (w : Word) :
    (s.setPc w).draw = s.draw := rfl
@[simp] theorem State.setPc_key (w : Word) :
    (s.setPc w).key = s.key := rfl
@[simp] theorem State.setPc_fault (w : Word) :
    (s.setPc w).fault = s.fault := rfl
@[simp] theorem State.setPc_params (w : Word) :
    (s.setPc w).params = s.params := rfl
@[simp] theorem State.setPc_result (w : Word) :
    (s.setPc w).result = s.result := rfl
@[simp] theorem State.setPc_rndIn (w : Word) :
    (s.setPc w).rndIn = s.rndIn := rfl
@[simp] theorem State.setPc_draws (w : Word) :
    (s.setPc w).draws = s.draws := rfl
@[simp] theorem State.setPc_vreg (w : Word) (r : Nibble) :
    (s.setPc w).vreg r = s.vreg r := rfl

/-! ### `State.advance` -/

@[simp] theorem State.advance_mem :
    (s.advance).mem = s.mem := rfl
@[simp] theorem State.advance_peek (j : Nat) :
    (s.advance).peek j = s.peek j := rfl
@[simp] theorem State.advance_v :
    (s.advance).v = s.v := rfl
@[simp] theorem State.advance_i :
    (s.advance).i = s.i := rfl
@[simp] theorem State.advance_pc :
    (s.advance).pc = s.pc + 2 := rfl
@[simp] theorem State.advance_sp :
    (s.advance).sp = s.sp := rfl
@[simp] theorem State.advance_stk :
    (s.advance).stk = s.stk := rfl
@[simp] theorem State.advance_dt :
    (s.advance).dt = s.dt := rfl
@[simp] theorem State.advance_st :
    (s.advance).st = s.st := rfl
@[simp] theorem State.advance_fb :
    (s.advance).fb = s.fb := rfl
@[simp] theorem State.advance_draw :
    (s.advance).draw = s.draw := rfl
@[simp] theorem State.advance_key :
    (s.advance).key = s.key := rfl
@[simp] theorem State.advance_fault :
    (s.advance).fault = s.fault := rfl
@[simp] theorem State.advance_params :
    (s.advance).params = s.params := rfl
@[simp] theorem State.advance_result :
    (s.advance).result = s.result := rfl
@[simp] theorem State.advance_rndIn :
    (s.advance).rndIn = s.rndIn := rfl
@[simp] theorem State.advance_draws :
    (s.advance).draws = s.draws := rfl
@[simp] theorem State.advance_vreg (r : Nibble) :
    (s.advance).vreg r = s.vreg r := rfl

/-! ### `State.raise` -/

@[simp] theorem State.raise_mem (c : FaultCause) :
    (s.raise c).mem = s.mem := rfl
@[simp] theorem State.raise_peek (c : FaultCause) (j : Nat) :
    (s.raise c).peek j = s.peek j := rfl
@[simp] theorem State.raise_v (c : FaultCause) :
    (s.raise c).v = s.v := rfl
@[simp] theorem State.raise_i (c : FaultCause) :
    (s.raise c).i = s.i := rfl
@[simp] theorem State.raise_pc (c : FaultCause) :
    (s.raise c).pc = s.pc := rfl
@[simp] theorem State.raise_sp (c : FaultCause) :
    (s.raise c).sp = s.sp := rfl
@[simp] theorem State.raise_stk (c : FaultCause) :
    (s.raise c).stk = s.stk := rfl
@[simp] theorem State.raise_dt (c : FaultCause) :
    (s.raise c).dt = s.dt := rfl
@[simp] theorem State.raise_st (c : FaultCause) :
    (s.raise c).st = s.st := rfl
@[simp] theorem State.raise_fb (c : FaultCause) :
    (s.raise c).fb = s.fb := rfl
@[simp] theorem State.raise_draw (c : FaultCause) :
    (s.raise c).draw = s.draw := rfl
@[simp] theorem State.raise_key (c : FaultCause) :
    (s.raise c).key = s.key := rfl
@[simp] theorem State.raise_fault (c : FaultCause) :
    (s.raise c).fault = some ⟨c, s.pc, s.fetchWord⟩ := rfl
@[simp] theorem State.raise_params (c : FaultCause) :
    (s.raise c).params = s.params := rfl
@[simp] theorem State.raise_result (c : FaultCause) :
    (s.raise c).result = some (.fault ⟨c, s.pc, s.fetchWord⟩) := rfl
@[simp] theorem State.raise_rndIn (c : FaultCause) :
    (s.raise c).rndIn = s.rndIn := rfl
@[simp] theorem State.raise_draws (c : FaultCause) :
    (s.raise c).draws = s.draws := rfl
@[simp] theorem State.raise_vreg (c : FaultCause) (r : Nibble) :
    (s.raise c).vreg r = s.vreg r := rfl

/-! ### `State.loadRegFile` -/

@[simp] theorem State.loadRegFile_mem (n : Nat) :
    (s.loadRegFile n).mem = s.mem := rfl
@[simp] theorem State.loadRegFile_peek (n : Nat) (j : Nat) :
    (s.loadRegFile n).peek j = s.peek j := rfl
@[simp] theorem State.loadRegFile_v (n : Nat) :
    (s.loadRegFile n).v = loadFirst (fun k => s.peek (s.i.toNat + k)) n s.v := rfl
@[simp] theorem State.loadRegFile_i (n : Nat) :
    (s.loadRegFile n).i = s.i := rfl
@[simp] theorem State.loadRegFile_pc (n : Nat) :
    (s.loadRegFile n).pc = s.pc := rfl
@[simp] theorem State.loadRegFile_sp (n : Nat) :
    (s.loadRegFile n).sp = s.sp := rfl
@[simp] theorem State.loadRegFile_stk (n : Nat) :
    (s.loadRegFile n).stk = s.stk := rfl
@[simp] theorem State.loadRegFile_dt (n : Nat) :
    (s.loadRegFile n).dt = s.dt := rfl
@[simp] theorem State.loadRegFile_st (n : Nat) :
    (s.loadRegFile n).st = s.st := rfl
@[simp] theorem State.loadRegFile_fb (n : Nat) :
    (s.loadRegFile n).fb = s.fb := rfl
@[simp] theorem State.loadRegFile_draw (n : Nat) :
    (s.loadRegFile n).draw = s.draw := rfl
@[simp] theorem State.loadRegFile_key (n : Nat) :
    (s.loadRegFile n).key = s.key := rfl
@[simp] theorem State.loadRegFile_fault (n : Nat) :
    (s.loadRegFile n).fault = s.fault := rfl
@[simp] theorem State.loadRegFile_params (n : Nat) :
    (s.loadRegFile n).params = s.params := rfl
@[simp] theorem State.loadRegFile_result (n : Nat) :
    (s.loadRegFile n).result = s.result := rfl
@[simp] theorem State.loadRegFile_rndIn (n : Nat) :
    (s.loadRegFile n).rndIn = s.rndIn := rfl
@[simp] theorem State.loadRegFile_draws (n : Nat) :
    (s.loadRegFile n).draws = s.draws := rfl

/-! ### `State.storeAtIndex` -/

@[simp] theorem State.storeAtIndex_mem (bs : List Byte) :
    (s.storeAtIndex bs).mem = Memory.pokeAll s.params.fontRom s.mem s.i.toNat bs := rfl
@[simp] theorem State.storeAtIndex_v (bs : List Byte) :
    (s.storeAtIndex bs).v = s.v := rfl
@[simp] theorem State.storeAtIndex_i (bs : List Byte) :
    (s.storeAtIndex bs).i = s.i := rfl
@[simp] theorem State.storeAtIndex_pc (bs : List Byte) :
    (s.storeAtIndex bs).pc = s.pc := rfl
@[simp] theorem State.storeAtIndex_sp (bs : List Byte) :
    (s.storeAtIndex bs).sp = s.sp := rfl
@[simp] theorem State.storeAtIndex_stk (bs : List Byte) :
    (s.storeAtIndex bs).stk = s.stk := rfl
@[simp] theorem State.storeAtIndex_dt (bs : List Byte) :
    (s.storeAtIndex bs).dt = s.dt := rfl
@[simp] theorem State.storeAtIndex_st (bs : List Byte) :
    (s.storeAtIndex bs).st = s.st := rfl
@[simp] theorem State.storeAtIndex_fb (bs : List Byte) :
    (s.storeAtIndex bs).fb = s.fb := rfl
@[simp] theorem State.storeAtIndex_draw (bs : List Byte) :
    (s.storeAtIndex bs).draw = s.draw := rfl
@[simp] theorem State.storeAtIndex_key (bs : List Byte) :
    (s.storeAtIndex bs).key = s.key := rfl
@[simp] theorem State.storeAtIndex_fault (bs : List Byte) :
    (s.storeAtIndex bs).fault = s.fault := rfl
@[simp] theorem State.storeAtIndex_params (bs : List Byte) :
    (s.storeAtIndex bs).params = s.params := rfl
@[simp] theorem State.storeAtIndex_result (bs : List Byte) :
    (s.storeAtIndex bs).result = s.result := rfl
@[simp] theorem State.storeAtIndex_rndIn (bs : List Byte) :
    (s.storeAtIndex bs).rndIn = s.rndIn := rfl
@[simp] theorem State.storeAtIndex_draws (bs : List Byte) :
    (s.storeAtIndex bs).draws = s.draws := rfl
@[simp] theorem State.storeAtIndex_vreg (bs : List Byte) (r : Nibble) :
    (s.storeAtIndex bs).vreg r = s.vreg r := rfl

/-! ### `State.timerPhase` -/

@[simp] theorem State.timerPhase_mem :
    (s.timerPhase).mem = s.mem := rfl
@[simp] theorem State.timerPhase_peek (j : Nat) :
    (s.timerPhase).peek j = s.peek j := rfl
@[simp] theorem State.timerPhase_v :
    (s.timerPhase).v = s.v := rfl
@[simp] theorem State.timerPhase_i :
    (s.timerPhase).i = s.i := rfl
@[simp] theorem State.timerPhase_pc :
    (s.timerPhase).pc = s.pc := rfl
@[simp] theorem State.timerPhase_sp :
    (s.timerPhase).sp = s.sp := rfl
@[simp] theorem State.timerPhase_stk :
    (s.timerPhase).stk = s.stk := rfl
@[simp] theorem State.timerPhase_dt :
    (s.timerPhase).dt = countDown s.dt := rfl
@[simp] theorem State.timerPhase_st :
    (s.timerPhase).st = countDown s.st := rfl
@[simp] theorem State.timerPhase_fb :
    (s.timerPhase).fb = s.fb := rfl
@[simp] theorem State.timerPhase_draw :
    (s.timerPhase).draw = s.draw := rfl
@[simp] theorem State.timerPhase_key :
    (s.timerPhase).key = s.key := rfl
@[simp] theorem State.timerPhase_fault :
    (s.timerPhase).fault = s.fault := rfl
@[simp] theorem State.timerPhase_params :
    (s.timerPhase).params = s.params := rfl
@[simp] theorem State.timerPhase_result :
    (s.timerPhase).result = s.result := rfl
@[simp] theorem State.timerPhase_rndIn :
    (s.timerPhase).rndIn = s.rndIn := rfl
@[simp] theorem State.timerPhase_draws :
    (s.timerPhase).draws = s.draws := rfl
@[simp] theorem State.timerPhase_vreg (r : Nibble) :
    (s.timerPhase).vreg r = s.vreg r := rfl

/-! ### `State.returnOk` -/

@[simp] theorem State.returnOk_mem (b : Bool) :
    (s.returnOk b).mem = s.mem := rfl
@[simp] theorem State.returnOk_peek (b : Bool) (j : Nat) :
    (s.returnOk b).peek j = s.peek j := rfl
@[simp] theorem State.returnOk_v (b : Bool) :
    (s.returnOk b).v = s.v := rfl
@[simp] theorem State.returnOk_i (b : Bool) :
    (s.returnOk b).i = s.i := rfl
@[simp] theorem State.returnOk_pc (b : Bool) :
    (s.returnOk b).pc = s.pc := rfl
@[simp] theorem State.returnOk_sp (b : Bool) :
    (s.returnOk b).sp = s.sp := rfl
@[simp] theorem State.returnOk_stk (b : Bool) :
    (s.returnOk b).stk = s.stk := rfl
@[simp] theorem State.returnOk_dt (b : Bool) :
    (s.returnOk b).dt = s.dt := rfl
@[simp] theorem State.returnOk_st (b : Bool) :
    (s.returnOk b).st = s.st := rfl
@[simp] theorem State.returnOk_fb (b : Bool) :
    (s.returnOk b).fb = s.fb := rfl
@[simp] theorem State.returnOk_draw (b : Bool) :
    (s.returnOk b).draw = s.draw := rfl
@[simp] theorem State.returnOk_key (b : Bool) :
    (s.returnOk b).key = s.key := rfl
@[simp] theorem State.returnOk_fault (b : Bool) :
    (s.returnOk b).fault = s.fault := rfl
@[simp] theorem State.returnOk_params (b : Bool) :
    (s.returnOk b).params = s.params := rfl
@[simp] theorem State.returnOk_result (b : Bool) :
    (s.returnOk b).result = some (.ok b) := rfl
@[simp] theorem State.returnOk_rndIn (b : Bool) :
    (s.returnOk b).rndIn = none := rfl
@[simp] theorem State.returnOk_draws (b : Bool) :
    (s.returnOk b).draws = s.draws := rfl
@[simp] theorem State.returnOk_vreg (b : Bool) (r : Nibble) :
    (s.returnOk b).vreg r = s.vreg r := rfl

/-! ### `State.faultAgain` -/

@[simp] theorem State.faultAgain_mem (fr : FaultRecord) :
    (s.faultAgain fr).mem = s.mem := rfl
@[simp] theorem State.faultAgain_peek (fr : FaultRecord) (j : Nat) :
    (s.faultAgain fr).peek j = s.peek j := rfl
@[simp] theorem State.faultAgain_v (fr : FaultRecord) :
    (s.faultAgain fr).v = s.v := rfl
@[simp] theorem State.faultAgain_i (fr : FaultRecord) :
    (s.faultAgain fr).i = s.i := rfl
@[simp] theorem State.faultAgain_pc (fr : FaultRecord) :
    (s.faultAgain fr).pc = s.pc := rfl
@[simp] theorem State.faultAgain_sp (fr : FaultRecord) :
    (s.faultAgain fr).sp = s.sp := rfl
@[simp] theorem State.faultAgain_stk (fr : FaultRecord) :
    (s.faultAgain fr).stk = s.stk := rfl
@[simp] theorem State.faultAgain_dt (fr : FaultRecord) :
    (s.faultAgain fr).dt = s.dt := rfl
@[simp] theorem State.faultAgain_st (fr : FaultRecord) :
    (s.faultAgain fr).st = s.st := rfl
@[simp] theorem State.faultAgain_fb (fr : FaultRecord) :
    (s.faultAgain fr).fb = s.fb := rfl
@[simp] theorem State.faultAgain_draw (fr : FaultRecord) :
    (s.faultAgain fr).draw = s.draw := rfl
@[simp] theorem State.faultAgain_key (fr : FaultRecord) :
    (s.faultAgain fr).key = s.key := rfl
@[simp] theorem State.faultAgain_fault (fr : FaultRecord) :
    (s.faultAgain fr).fault = s.fault := rfl
@[simp] theorem State.faultAgain_params (fr : FaultRecord) :
    (s.faultAgain fr).params = s.params := rfl
@[simp] theorem State.faultAgain_result (fr : FaultRecord) :
    (s.faultAgain fr).result = some (.fault fr) := rfl
@[simp] theorem State.faultAgain_rndIn (fr : FaultRecord) :
    (s.faultAgain fr).rndIn = s.rndIn := rfl
@[simp] theorem State.faultAgain_draws (fr : FaultRecord) :
    (s.faultAgain fr).draws = s.draws := rfl
@[simp] theorem State.faultAgain_vreg (fr : FaultRecord) (r : Nibble) :
    (s.faultAgain fr).vreg r = s.vreg r := rfl

/-! ### `State.setKeys` -/

@[simp] theorem State.setKeys_mem (k : BitVec 16) :
    (s.setKeys k).mem = s.mem := rfl
@[simp] theorem State.setKeys_peek (k : BitVec 16) (j : Nat) :
    (s.setKeys k).peek j = s.peek j := rfl
@[simp] theorem State.setKeys_v (k : BitVec 16) :
    (s.setKeys k).v = s.v := rfl
@[simp] theorem State.setKeys_i (k : BitVec 16) :
    (s.setKeys k).i = s.i := rfl
@[simp] theorem State.setKeys_pc (k : BitVec 16) :
    (s.setKeys k).pc = s.pc := rfl
@[simp] theorem State.setKeys_sp (k : BitVec 16) :
    (s.setKeys k).sp = s.sp := rfl
@[simp] theorem State.setKeys_stk (k : BitVec 16) :
    (s.setKeys k).stk = s.stk := rfl
@[simp] theorem State.setKeys_dt (k : BitVec 16) :
    (s.setKeys k).dt = s.dt := rfl
@[simp] theorem State.setKeys_st (k : BitVec 16) :
    (s.setKeys k).st = s.st := rfl
@[simp] theorem State.setKeys_fb (k : BitVec 16) :
    (s.setKeys k).fb = s.fb := rfl
@[simp] theorem State.setKeys_draw (k : BitVec 16) :
    (s.setKeys k).draw = s.draw := rfl
@[simp] theorem State.setKeys_key (k : BitVec 16) :
    (s.setKeys k).key = k := rfl
@[simp] theorem State.setKeys_fault (k : BitVec 16) :
    (s.setKeys k).fault = s.fault := rfl
@[simp] theorem State.setKeys_params (k : BitVec 16) :
    (s.setKeys k).params = s.params := rfl
@[simp] theorem State.setKeys_result (k : BitVec 16) :
    (s.setKeys k).result = s.result := rfl
@[simp] theorem State.setKeys_rndIn (k : BitVec 16) :
    (s.setKeys k).rndIn = s.rndIn := rfl
@[simp] theorem State.setKeys_draws (k : BitVec 16) :
    (s.setKeys k).draws = s.draws := rfl
@[simp] theorem State.setKeys_vreg (k : BitVec 16) (r : Nibble) :
    (s.setKeys k).vreg r = s.vreg r := rfl

/-! ### `State.clearDraw` -/

@[simp] theorem State.clearDraw_mem :
    (s.clearDraw).mem = s.mem := rfl
@[simp] theorem State.clearDraw_peek (j : Nat) :
    (s.clearDraw).peek j = s.peek j := rfl
@[simp] theorem State.clearDraw_v :
    (s.clearDraw).v = s.v := rfl
@[simp] theorem State.clearDraw_i :
    (s.clearDraw).i = s.i := rfl
@[simp] theorem State.clearDraw_pc :
    (s.clearDraw).pc = s.pc := rfl
@[simp] theorem State.clearDraw_sp :
    (s.clearDraw).sp = s.sp := rfl
@[simp] theorem State.clearDraw_stk :
    (s.clearDraw).stk = s.stk := rfl
@[simp] theorem State.clearDraw_dt :
    (s.clearDraw).dt = s.dt := rfl
@[simp] theorem State.clearDraw_st :
    (s.clearDraw).st = s.st := rfl
@[simp] theorem State.clearDraw_fb :
    (s.clearDraw).fb = s.fb := rfl
@[simp] theorem State.clearDraw_draw :
    (s.clearDraw).draw = false := rfl
@[simp] theorem State.clearDraw_key :
    (s.clearDraw).key = s.key := rfl
@[simp] theorem State.clearDraw_fault :
    (s.clearDraw).fault = s.fault := rfl
@[simp] theorem State.clearDraw_params :
    (s.clearDraw).params = s.params := rfl
@[simp] theorem State.clearDraw_result :
    (s.clearDraw).result = s.result := rfl
@[simp] theorem State.clearDraw_rndIn :
    (s.clearDraw).rndIn = s.rndIn := rfl
@[simp] theorem State.clearDraw_draws :
    (s.clearDraw).draws = s.draws := rfl
@[simp] theorem State.clearDraw_vreg (r : Nibble) :
    (s.clearDraw).vreg r = s.vreg r := rfl

/-! ### `State.flagAndData`, whose register file has a lemma of its own in Laws/Ops -/

@[simp] theorem State.flagAndData_mem (o : VfOrder) (x : Nibble) (f d : State → Byte) :
    (s.flagAndData o x f d).mem = s.mem := by cases o <;> rfl
@[simp] theorem State.flagAndData_peek (o : VfOrder) (x : Nibble) (f d : State → Byte) (j : Nat) :
    (s.flagAndData o x f d).peek j = s.peek j := by cases o <;> rfl
@[simp] theorem State.flagAndData_i (o : VfOrder) (x : Nibble) (f d : State → Byte) :
    (s.flagAndData o x f d).i = s.i := by cases o <;> rfl
@[simp] theorem State.flagAndData_pc (o : VfOrder) (x : Nibble) (f d : State → Byte) :
    (s.flagAndData o x f d).pc = s.pc := by cases o <;> rfl
@[simp] theorem State.flagAndData_sp (o : VfOrder) (x : Nibble) (f d : State → Byte) :
    (s.flagAndData o x f d).sp = s.sp := by cases o <;> rfl
@[simp] theorem State.flagAndData_stk (o : VfOrder) (x : Nibble) (f d : State → Byte) :
    (s.flagAndData o x f d).stk = s.stk := by cases o <;> rfl
@[simp] theorem State.flagAndData_dt (o : VfOrder) (x : Nibble) (f d : State → Byte) :
    (s.flagAndData o x f d).dt = s.dt := by cases o <;> rfl
@[simp] theorem State.flagAndData_st (o : VfOrder) (x : Nibble) (f d : State → Byte) :
    (s.flagAndData o x f d).st = s.st := by cases o <;> rfl
@[simp] theorem State.flagAndData_fb (o : VfOrder) (x : Nibble) (f d : State → Byte) :
    (s.flagAndData o x f d).fb = s.fb := by cases o <;> rfl
@[simp] theorem State.flagAndData_draw (o : VfOrder) (x : Nibble) (f d : State → Byte) :
    (s.flagAndData o x f d).draw = s.draw := by cases o <;> rfl
@[simp] theorem State.flagAndData_key (o : VfOrder) (x : Nibble) (f d : State → Byte) :
    (s.flagAndData o x f d).key = s.key := by cases o <;> rfl
@[simp] theorem State.flagAndData_fault (o : VfOrder) (x : Nibble) (f d : State → Byte) :
    (s.flagAndData o x f d).fault = s.fault := by cases o <;> rfl
@[simp] theorem State.flagAndData_params (o : VfOrder) (x : Nibble) (f d : State → Byte) :
    (s.flagAndData o x f d).params = s.params := by cases o <;> rfl
@[simp] theorem State.flagAndData_result (o : VfOrder) (x : Nibble) (f d : State → Byte) :
    (s.flagAndData o x f d).result = s.result := by cases o <;> rfl
@[simp] theorem State.flagAndData_rndIn (o : VfOrder) (x : Nibble) (f d : State → Byte) :
    (s.flagAndData o x f d).rndIn = s.rndIn := by cases o <;> rfl
@[simp] theorem State.flagAndData_draws (o : VfOrder) (x : Nibble) (f d : State → Byte) :
    (s.flagAndData o x f d).draws = s.draws := by cases o <;> rfl

/-! ### `State.skipIf`, whose PC has a lemma of its own in Laws/Ops -/

@[simp] theorem State.skipIf_mem (c : Bool) :
    (s.skipIf c).mem = s.mem := by cases c <;> rfl
@[simp] theorem State.skipIf_peek (c : Bool) (j : Nat) :
    (s.skipIf c).peek j = s.peek j := by cases c <;> rfl
@[simp] theorem State.skipIf_v (c : Bool) :
    (s.skipIf c).v = s.v := by cases c <;> rfl
@[simp] theorem State.skipIf_i (c : Bool) :
    (s.skipIf c).i = s.i := by cases c <;> rfl
@[simp] theorem State.skipIf_sp (c : Bool) :
    (s.skipIf c).sp = s.sp := by cases c <;> rfl
@[simp] theorem State.skipIf_stk (c : Bool) :
    (s.skipIf c).stk = s.stk := by cases c <;> rfl
@[simp] theorem State.skipIf_dt (c : Bool) :
    (s.skipIf c).dt = s.dt := by cases c <;> rfl
@[simp] theorem State.skipIf_st (c : Bool) :
    (s.skipIf c).st = s.st := by cases c <;> rfl
@[simp] theorem State.skipIf_fb (c : Bool) :
    (s.skipIf c).fb = s.fb := by cases c <;> rfl
@[simp] theorem State.skipIf_draw (c : Bool) :
    (s.skipIf c).draw = s.draw := by cases c <;> rfl
@[simp] theorem State.skipIf_key (c : Bool) :
    (s.skipIf c).key = s.key := by cases c <;> rfl
@[simp] theorem State.skipIf_fault (c : Bool) :
    (s.skipIf c).fault = s.fault := by cases c <;> rfl
@[simp] theorem State.skipIf_params (c : Bool) :
    (s.skipIf c).params = s.params := by cases c <;> rfl
@[simp] theorem State.skipIf_result (c : Bool) :
    (s.skipIf c).result = s.result := by cases c <;> rfl
@[simp] theorem State.skipIf_rndIn (c : Bool) :
    (s.skipIf c).rndIn = s.rndIn := by cases c <;> rfl
@[simp] theorem State.skipIf_draws (c : Bool) :
    (s.skipIf c).draws = s.draws := by cases c <;> rfl
@[simp] theorem State.skipIf_vreg (c : Bool) (r : Nibble) :
    (s.skipIf c).vreg r = s.vreg r := by cases c <;> rfl

end Sys2Proof.Machine
end

