-- ==== Sys2Proof/Laws/Ops.lean ====
section
/-!
SUPPORT. One lemma per shared operation, saying what it can do; proofs cite these instead of unfolding.
-/

namespace Sys2Proof.Machine

/-! ### Registers and program counter -/

/-- R20: a register reads what was last written to it, and a write leaves every other register. -/
@[simp] theorem State.vreg_setV (s : State) (x r : Nibble) (b : Byte) :
    (s.setV x b).vreg r = if r = x then b else s.vreg r := by
  simp only [State.vreg, State.setV, Vector.getElem_set, BitVec.toNat_inj, eq_comm (a := x)]

/-- A skip is one write of PC. -/
theorem State.skipIf_eq (s : State) (c : Bool) :
    s.skipIf c = s.setPc (if c then s.pc + 4 else s.pc + 2) := by
  cases c
  · rfl
  · simp only [State.skipIf, State.advance, State.setPc, Config.insnBytes, if_true, BitVec.add_assoc]
    rfl

/-- R163 and U9: what the register file holds after the flag and data writes, order by order. -/
theorem State.vreg_flagAndData (s : State) (o : VfOrder) (x r : Nibble) (f d : State → Byte) :
    (s.flagAndData o x f d).vreg r =
      match o with
      | .dataLast => if r = x then d s else if r = 15 then f s else s.vreg r
      | .flagLast => if r = 15 then f s else if r = x then d s else s.vreg r
      | .sequential => if r = x then d (s.setV 15 (f s)) else if r = 15 then f s else s.vreg r := by
  cases o <;> simp only [State.flagAndData, State.vreg_setV, vf]

/-- A register beside VX and VF keeps its value in every order. -/
theorem State.vreg_flagAndData_other (s : State) (o : VfOrder) (x r : Nibble) (f d : State → Byte)
    (hx : r ≠ x) (hf : r ≠ 15) : (s.flagAndData o x f d).vreg r = s.vreg r := by
  rw [State.vreg_flagAndData]
  cases o <;> simp only [if_neg hx, if_neg hf]

/-! ### Memory -/

/-- R60: outside the bytes stored, memory reads as before. -/
theorem State.peek_storeAt_outside (s : State) (a c : Nat) (bs : List Byte)
    (h : c < a ∨ a + bs.length ≤ c) : (s.storeAt a bs).peek c = s.peek c :=
  Memory.peek_pokeAll_outside _ _ _ _ h

/-- R60: the k-th stored byte is read at the k-th address. -/
theorem State.peek_storeAt_inside (s : State) (a k : Nat) (bs : List Byte) (h : k < bs.length) :
    (s.storeAt a bs).peek (a + k) = bs[k] :=
  Memory.peek_pokeAll_inside _ _ _ _ h

/-- R240: a core after Reset(P) is the core after reset with the image stored at 0x200. -/
theorem State.construct_eq (p : Params) (image : List Byte) :
    State.construct p image = (State.resetAt p).storeAt Config.progBase image := by
  have h : (State.resetAt p).storeAt Config.fontBase p.fontRom.toList = State.resetAt p := by
    simp only [State.storeAt, State.resetAt, Memory.pokeAll_nil_font]
  simp only [State.construct, h]

/-! ### Range checks and fault entry -/

theorem State.orOutOfBounds_inside (s t : State) (len : Nat) (h : s.i.toNat + len ≤ 4096) :
    s.orOutOfBounds len t = t := by
  simp [State.orOutOfBounds, inMemory, Config.memSize, h]

theorem State.orOutOfBounds_outside (s t : State) (len : Nat) (h : 4096 < s.i.toNat + len) :
    s.orOutOfBounds len t = s.raise (.memoryOutOfBounds s.i len) := by
  simp [State.orOutOfBounds, inMemory, Config.memSize, Nat.not_le.mpr h]

theorem State.orKeyOutOfRange_le (s t : State) (b : Byte) (h : b.toNat ≤ 15) :
    s.orKeyOutOfRange b t = t := if_neg (by omega)

theorem State.orKeyOutOfRange_gt (s t : State) (b : Byte) (h : 15 < b.toNat) :
    s.orKeyOutOfRange b t = s.raise (.keyIndexOutOfRange b) := if_pos h

/-- Fault entry is what R212 says. -/
theorem State.raisedFrom_raise (s : State) (c : FaultCause) : RaisedFrom s (s.raise c) c := by
  simp [RaisedFrom, KeepsV, KeepsMemory, KeepsStack, KeepsTimers, KeepsScreen]

/-- The fetched word exists exactly when PC is at most 4094 (R101). -/
theorem State.fetchWord_isSome (s : State) : s.fetchWord.isSome = decide (s.pc.toNat ≤ 4094) := by
  unfold State.fetchWord
  split <;> simp_all

/-! ### Stack -/

theorem State.push?_full (s : State) (w : Word) (h : s.sp.val = 16) : s.push? w = none := by
  simp [State.push?, Config.stackDepth, h]

theorem State.push?_room (s : State) (w : Word) (h : s.sp.val < 16) :
    s.push? w =
      some { s with stk := s.stk.set s.sp.val w h, sp := ⟨s.sp.val + 1, Nat.succ_lt_succ h⟩ } :=
  dif_pos h

theorem State.pop?_empty (s : State) (h : s.sp.val = 0) : s.pop? = none := by
  simp [State.pop?, h]

theorem State.pop?_some (s : State) (h : 0 < s.sp.val) :
    s.pop? = some (s.stk[s.sp.val - 1]'(by have := s.sp.isLt; omega),
      { s with sp := ⟨s.sp.val - 1, by have := s.sp.isLt; omega⟩ }) :=
  dif_pos h

/-! ### Timers -/

/-- R107: a timer counts down and stays at 0. -/
theorem countDown_toNat (b : Byte) : (countDown b).toNat = b.toNat - 1 := by
  unfold countDown
  split
  · simp_all
  · rename_i h
    have : b.toNat ≠ 0 := fun h0 => h (BitVec.eq_of_toNat_eq h0)
    rw [BitVec.toNat_sub_of_le (by simp [BitVec.le_def]; omega)]
    rfl

/-! ### Framebuffer -/

theorem Frame.pixel_clear (y : Fin 32) (x : Fin 64) : Frame.pixel Frame.clear y x = false := by
  simp [Frame.pixel, Frame.clear]

/-- A flip inverts its pixel and leaves every other. -/
theorem Frame.pixel_flip (fb : Frame) (y py : Fin 32) (x px : Fin 64) :
    Frame.pixel (fb.flip y x) py px =
      (Frame.pixel fb py px ^^ (decide (py = y) && decide (px = x))) := by
  simp only [Frame.pixel, Frame.flip, Vector.getElem_set]
  by_cases hy : py = y
  · subst hy
    have : px.val < 64 := px.isLt
    by_cases hx : px = x
    · subst hx; simp
    · have hx' : px.val ≠ x.val := fun h => hx (Fin.ext h)
      simp only [if_true, BitVec.getLsbD_xor, BitVec.getLsbD_shiftLeft, hx, decide_false, Bool.and_false,
        Bool.xor_false, BitVec.getLsbD_one]
      by_cases hlt : px.val < x.val
      · simp [hlt]
      · have h0 : ¬ px.val - x.val = 0 := by omega
        simp [h0]
  · have : ¬ y.val = py.val := fun h => hy (Fin.ext h.symm)
    simp [this, hy]

/-- R121: one sprite bit inverts its pixel if the bit is 1, and leaves every other. -/
theorem pixel_drawBit (y py : Fin 32) (x px : Fin 64) (bit : Bool) (p : Frame × Bool) :
    Frame.pixel (drawBit y x bit p).1 py px =
      (Frame.pixel p.1 py px ^^ (bit && decide (py = y) && decide (px = x))) := by
  cases bit <;> simp [drawBit, Frame.pixel_flip]

/-- R121: one sprite bit collides if it is 1 and its pixel was 1. -/
theorem collision_drawBit (y : Fin 32) (x : Fin 64) (bit : Bool) (p : Frame × Bool) :
    (drawBit y x bit p).2 = (p.2 || (bit && Frame.pixel p.1 y x)) := by
  cases bit <;> simp [drawBit]

/-! ### Register transfers -/

/-- R175: register k is loaded if k is below the count, and kept otherwise. -/
theorem getElem_loadFirst (byte : Nat → Byte) (n : Nat) (v : Vector Byte 16) (k : Nat) (hk : k < 16) :
    (loadFirst byte n v)[k] = if k < n then byte k else v[k] := by
  induction n with
  | zero => simp [loadFirst]
  | succ n ih =>
    simp only [loadFirst, Vector.getElem_setIfInBounds, ih]
    by_cases h : n = k
    · subst h; simp
    · rw [if_neg h]
      by_cases h' : k < n
      · rw [if_pos h', if_pos (by omega)]
      · rw [if_neg h', if_neg (by omega)]

@[simp] theorem State.firstRegs_length (s : State) (n : Nat) : (s.firstRegs n).length = n := by
  simp [State.firstRegs]

@[simp] theorem State.firstRegs_getElem (s : State) (n k : Nat) (h : k < (s.firstRegs n).length) :
    (s.firstRegs n)[k] = s.vreg (BitVec.ofNat 4 k) := by
  simp [State.firstRegs]

/-- R193: the key found is the highest one pressed. -/
theorem lastPressed_spec (key : BitVec 16) (n : Nat) :
    match lastPressed key n with
    | none => ∀ j < n, key.getLsbD j = false
    | some b => ∃ k < n, b = BitVec.ofNat 8 k ∧ key.getLsbD k = true ∧
        ∀ j, k < j → j < n → key.getLsbD j = false := by
  induction n with
  | zero => simp [lastPressed]
  | succ n ih =>
    simp only [lastPressed]
    split
    · rename_i b h
      split at h
      · exact absurd h (by simp)
      · rename_i hn
        rw [h] at ih
        intro j hj
        rcases Nat.lt_succ_iff_lt_or_eq.mp hj with h' | rfl
        · exact ih j h'
        · simpa using hn
    · rename_i b h
      split at h
      · rename_i hn
        exact ⟨n, by omega, (Option.some.inj h).symm, hn, fun j h1 h2 => by omega⟩
      · rename_i hn
        rw [h] at ih
        obtain ⟨k, hk, hb, hp, hu⟩ := ih
        refine ⟨k, by omega, hb, hp, fun j h1 h2 => ?_⟩
        rcases Nat.lt_succ_iff_lt_or_eq.mp h2 with h' | rfl
        · exact hu j h1 h'
        · simpa using hn

/-! ### Fetch and the end of a step -/

/-- When the fetch phase yields an instruction: no fault latched, a word fetched, the word decoding. -/
theorem State.fetchDecode_ok (s : State) (i : Instr) :
    s.fetchDecode = .ok i ↔
      s.fault = none ∧ ∃ w, s.fetchWord = some w ∧ decodeWord w = .ok i := by
  unfold State.fetchDecode
  cases hf : s.fault with
  | some r => simp
  | none =>
    cases hw : s.fetchWord with
    | none => simp
    | some w =>
      cases hd : decodeWord w <;> simp [hd]

/-- When the fetch phase ends the step: a fault latched, no word to fetch, or an invalid word. -/
theorem State.fetchDecode_error (s t : State) (h : s.fetchDecode = .error t) :
    (∃ r, s.fault = some r ∧ t = s.faultAgain r) ∨
      (s.fault = none ∧ s.fetchWord = none ∧ t = s.raise (.fetchOutOfBounds s.pc)) ∨
      (s.fault = none ∧ ∃ w e, s.fetchWord = some w ∧ decodeWord w = .error e ∧
        t = s.raise (.invalidOpcode w s.pc)) := by
  unfold State.fetchDecode at h
  cases hf : s.fault with
  | some r => simp [hf] at h; simp [h]
  | none =>
    cases hw : s.fetchWord with
    | none => simp [hf, hw] at h; simp [h]
    | some w =>
      cases hd : decodeWord w with
      | ok i => simp [hf, hw, hd] at h
      | error e => simp [hf, hw, hd] at h; simp [h, hd]

/-- What the end of a step makes of the state the instruction reached. -/
theorem endStep_cases (i : Instr) (s t : State) :
    (∃ r, t.fault = some r ∧ endStep i s t = t) ∨
      (t.fault = none ∧ keyWait i s = true ∧ endStep i s t = t.returnOk false) ∨
      (t.fault = none ∧ keyWait i s = false ∧ endStep i s t = t.timerPhase.returnOk t.beep) := by
  unfold endStep
  cases t.fault with
  | some r => exact .inl ⟨r, rfl, rfl⟩
  | none => cases keyWait i s <;> simp

/-- Every instruction answers a next state. -/
theorem exec_next (i : Instr) (s : State) : ∃ t, exec i s = .next t := by
  cases i <;> exact ⟨_, rfl⟩

/-- What a step can do (R114): it ends in the fetch phase, or the decoded instruction runs and the step
ends as `endStep` says. -/
theorem step_cases (s t : State) (h : step s = .next t) :
    s.fetchDecode = .error t ∨
      ∃ i u, s.fetchDecode = .ok i ∧ exec i s = .next u ∧ t = endStep i s u := by
  unfold step at h
  cases hd : s.fetchDecode with
  | error e => rw [hd] at h; cases h; exact .inl rfl
  | ok i =>
    obtain ⟨u, hu⟩ := exec_next i s
    rw [hd] at h
    simp only [hu] at h
    cases h
    exact .inr ⟨i, u, rfl, hu, rfl⟩

end Sys2Proof.Machine
end

