-- ==== Sys2Proof/Laws/PerInstr.lean ====
section
/-!
SUPPORT. Per-instruction laws about the encoder: the word of every instruction is one that the
instruction's row of the opcode map (spec/30_encoding.md R85) matches.
-/

namespace Sys2Proof.Laws

/-! ### The five layouts of R72 under their masks -/

theorem mask_address (f : Nibble) (d : Addr12) :
    (f ++ d) &&& 0xF000#(4 + 12) = f ++ 0#12 := by
  ext j hj
  simp only [BitVec.getElem_and, BitVec.getElem_append]
  interval_cases j <;> simp

theorem mask_regByte (f x : Nibble) (nn : Byte) :
    (f ++ x ++ nn) &&& 0xF000#(4 + 4 + 8) = f ++ 0#4 ++ 0#8 := by
  ext j hj
  simp only [BitVec.getElem_and, BitVec.getElem_append]
  interval_cases j <;> simp

theorem mask_regReg (f x y d : Nibble) :
    (f ++ x ++ y ++ d) &&& 0xF00F#(4 + 4 + 4 + 4) = f ++ 0#4 ++ 0#4 ++ d := by
  ext j hj
  simp only [BitVec.getElem_and, BitVec.getElem_append]
  interval_cases j <;> simp

theorem mask_regRegNibble (f x y n : Nibble) :
    (f ++ x ++ y ++ n) &&& 0xF000#(4 + 4 + 4 + 4) = f ++ 0#4 ++ 0#4 ++ 0#4 := by
  ext j hj
  simp only [BitVec.getElem_and, BitVec.getElem_append]
  interval_cases j <;> simp

theorem mask_reg (f x : Nibble) (d : Byte) :
    (f ++ x ++ d) &&& 0xF0FF#(4 + 4 + 8) = f ++ 0#4 ++ d := by
  ext j hj
  simp only [BitVec.getElem_and, BitVec.getElem_append]
  interval_cases j <;> simp

/-- The instruction's row of the opcode map matches the instruction's word. -/
def EncodeInMap.Statement (i : Instr) : Prop :=
  ∃ r ∈ opcodeMap, r.number = i.rowNumber ∧ r.hit (encode i) = true

/-- From the masked word to the row. -/
theorem encodeInMap_of_masked (i : Instr) (r : OpcodeRow) (hr : r ∈ opcodeMap)
    (hn : r.number = i.rowNumber) (h : encode i &&& r.mask = r.value) : EncodeInMap.Statement i :=
  ⟨r, hr, hn, by simpa [OpcodeRow.hit] using h⟩

theorem EncodeInMap.cls : EncodeInMap.Statement .cls :=
  encodeInMap_of_masked _ ⟨1, "00E0", 0x00E0, 0xFFFF⟩ (by decide) rfl rfl

theorem EncodeInMap.ret : EncodeInMap.Statement .ret :=
  encodeInMap_of_masked _ ⟨2, "00EE", 0x00EE, 0xFFFF⟩ (by decide) rfl rfl

theorem EncodeInMap.jp (nnn : Addr12) : EncodeInMap.Statement (.jp nnn) :=
  encodeInMap_of_masked _ ⟨3, "1NNN", 0x1000, 0xF000⟩ (by decide) rfl ((mask_address ..).trans rfl)

theorem EncodeInMap.call (nnn : Addr12) : EncodeInMap.Statement (.call nnn) :=
  encodeInMap_of_masked _ ⟨4, "2NNN", 0x2000, 0xF000⟩ (by decide) rfl ((mask_address ..).trans rfl)

theorem EncodeInMap.seImm (x : Nibble) (nn : Byte) : EncodeInMap.Statement (.seImm x nn) :=
  encodeInMap_of_masked _ ⟨5, "3XNN", 0x3000, 0xF000⟩ (by decide) rfl ((mask_regByte ..).trans rfl)

theorem EncodeInMap.sneImm (x : Nibble) (nn : Byte) : EncodeInMap.Statement (.sneImm x nn) :=
  encodeInMap_of_masked _ ⟨6, "4XNN", 0x4000, 0xF000⟩ (by decide) rfl ((mask_regByte ..).trans rfl)

theorem EncodeInMap.seReg (x : Nibble) (y : Nibble) : EncodeInMap.Statement (.seReg x y) :=
  encodeInMap_of_masked _ ⟨7, "5XY0", 0x5000, 0xF00F⟩ (by decide) rfl ((mask_regReg ..).trans rfl)

theorem EncodeInMap.ldImm (x : Nibble) (nn : Byte) : EncodeInMap.Statement (.ldImm x nn) :=
  encodeInMap_of_masked _ ⟨8, "6XNN", 0x6000, 0xF000⟩ (by decide) rfl ((mask_regByte ..).trans rfl)

theorem EncodeInMap.addImm (x : Nibble) (nn : Byte) : EncodeInMap.Statement (.addImm x nn) :=
  encodeInMap_of_masked _ ⟨9, "7XNN", 0x7000, 0xF000⟩ (by decide) rfl ((mask_regByte ..).trans rfl)

theorem EncodeInMap.ldReg (x : Nibble) (y : Nibble) : EncodeInMap.Statement (.ldReg x y) :=
  encodeInMap_of_masked _ ⟨10, "8XY0", 0x8000, 0xF00F⟩ (by decide) rfl ((mask_regReg ..).trans rfl)

theorem EncodeInMap.orReg (x : Nibble) (y : Nibble) : EncodeInMap.Statement (.orReg x y) :=
  encodeInMap_of_masked _ ⟨11, "8XY1", 0x8001, 0xF00F⟩ (by decide) rfl ((mask_regReg ..).trans rfl)

theorem EncodeInMap.andReg (x : Nibble) (y : Nibble) : EncodeInMap.Statement (.andReg x y) :=
  encodeInMap_of_masked _ ⟨12, "8XY2", 0x8002, 0xF00F⟩ (by decide) rfl ((mask_regReg ..).trans rfl)

theorem EncodeInMap.xorReg (x : Nibble) (y : Nibble) : EncodeInMap.Statement (.xorReg x y) :=
  encodeInMap_of_masked _ ⟨13, "8XY3", 0x8003, 0xF00F⟩ (by decide) rfl ((mask_regReg ..).trans rfl)

theorem EncodeInMap.addReg (x : Nibble) (y : Nibble) : EncodeInMap.Statement (.addReg x y) :=
  encodeInMap_of_masked _ ⟨14, "8XY4", 0x8004, 0xF00F⟩ (by decide) rfl ((mask_regReg ..).trans rfl)

theorem EncodeInMap.subReg (x : Nibble) (y : Nibble) : EncodeInMap.Statement (.subReg x y) :=
  encodeInMap_of_masked _ ⟨15, "8XY5", 0x8005, 0xF00F⟩ (by decide) rfl ((mask_regReg ..).trans rfl)

theorem EncodeInMap.shr (x : Nibble) (y : Nibble) : EncodeInMap.Statement (.shr x y) :=
  encodeInMap_of_masked _ ⟨16, "8XY6", 0x8006, 0xF00F⟩ (by decide) rfl ((mask_regReg ..).trans rfl)

theorem EncodeInMap.subnReg (x : Nibble) (y : Nibble) : EncodeInMap.Statement (.subnReg x y) :=
  encodeInMap_of_masked _ ⟨17, "8XY7", 0x8007, 0xF00F⟩ (by decide) rfl ((mask_regReg ..).trans rfl)

theorem EncodeInMap.shl (x : Nibble) (y : Nibble) : EncodeInMap.Statement (.shl x y) :=
  encodeInMap_of_masked _ ⟨18, "8XYE", 0x800E, 0xF00F⟩ (by decide) rfl ((mask_regReg ..).trans rfl)

theorem EncodeInMap.sneReg (x : Nibble) (y : Nibble) : EncodeInMap.Statement (.sneReg x y) :=
  encodeInMap_of_masked _ ⟨19, "9XY0", 0x9000, 0xF00F⟩ (by decide) rfl ((mask_regReg ..).trans rfl)

theorem EncodeInMap.ldI (nnn : Addr12) : EncodeInMap.Statement (.ldI nnn) :=
  encodeInMap_of_masked _ ⟨20, "ANNN", 0xA000, 0xF000⟩ (by decide) rfl ((mask_address ..).trans rfl)

theorem EncodeInMap.jpV0 (nnn : Addr12) : EncodeInMap.Statement (.jpV0 nnn) :=
  encodeInMap_of_masked _ ⟨21, "BNNN", 0xB000, 0xF000⟩ (by decide) rfl ((mask_address ..).trans rfl)

theorem EncodeInMap.rnd (x : Nibble) (nn : Byte) : EncodeInMap.Statement (.rnd x nn) :=
  encodeInMap_of_masked _ ⟨22, "CXNN", 0xC000, 0xF000⟩ (by decide) rfl ((mask_regByte ..).trans rfl)

theorem EncodeInMap.drw (x : Nibble) (y : Nibble) (n : Nibble) : EncodeInMap.Statement (.drw x y n) :=
  encodeInMap_of_masked _ ⟨23, "DXYN", 0xD000, 0xF000⟩ (by decide) rfl ((mask_regRegNibble ..).trans rfl)

theorem EncodeInMap.skp (x : Nibble) : EncodeInMap.Statement (.skp x) :=
  encodeInMap_of_masked _ ⟨24, "EX9E", 0xE09E, 0xF0FF⟩ (by decide) rfl ((mask_reg ..).trans rfl)

theorem EncodeInMap.sknp (x : Nibble) : EncodeInMap.Statement (.sknp x) :=
  encodeInMap_of_masked _ ⟨25, "EXA1", 0xE0A1, 0xF0FF⟩ (by decide) rfl ((mask_reg ..).trans rfl)

theorem EncodeInMap.ldVxDt (x : Nibble) : EncodeInMap.Statement (.ldVxDt x) :=
  encodeInMap_of_masked _ ⟨26, "FX07", 0xF007, 0xF0FF⟩ (by decide) rfl ((mask_reg ..).trans rfl)

theorem EncodeInMap.ldVxK (x : Nibble) : EncodeInMap.Statement (.ldVxK x) :=
  encodeInMap_of_masked _ ⟨27, "FX0A", 0xF00A, 0xF0FF⟩ (by decide) rfl ((mask_reg ..).trans rfl)

theorem EncodeInMap.ldDtVx (x : Nibble) : EncodeInMap.Statement (.ldDtVx x) :=
  encodeInMap_of_masked _ ⟨28, "FX15", 0xF015, 0xF0FF⟩ (by decide) rfl ((mask_reg ..).trans rfl)

theorem EncodeInMap.ldStVx (x : Nibble) : EncodeInMap.Statement (.ldStVx x) :=
  encodeInMap_of_masked _ ⟨29, "FX18", 0xF018, 0xF0FF⟩ (by decide) rfl ((mask_reg ..).trans rfl)

theorem EncodeInMap.addI (x : Nibble) : EncodeInMap.Statement (.addI x) :=
  encodeInMap_of_masked _ ⟨30, "FX1E", 0xF01E, 0xF0FF⟩ (by decide) rfl ((mask_reg ..).trans rfl)

theorem EncodeInMap.ldF (x : Nibble) : EncodeInMap.Statement (.ldF x) :=
  encodeInMap_of_masked _ ⟨31, "FX29", 0xF029, 0xF0FF⟩ (by decide) rfl ((mask_reg ..).trans rfl)

theorem EncodeInMap.ldB (x : Nibble) : EncodeInMap.Statement (.ldB x) :=
  encodeInMap_of_masked _ ⟨32, "FX33", 0xF033, 0xF0FF⟩ (by decide) rfl ((mask_reg ..).trans rfl)

theorem EncodeInMap.storeRegs (x : Nibble) : EncodeInMap.Statement (.storeRegs x) :=
  encodeInMap_of_masked _ ⟨33, "FX55", 0xF055, 0xF0FF⟩ (by decide) rfl ((mask_reg ..).trans rfl)

theorem EncodeInMap.loadRegs (x : Nibble) : EncodeInMap.Statement (.loadRegs x) :=
  encodeInMap_of_masked _ ⟨34, "FX65", 0xF065, 0xF0FF⟩ (by decide) rfl ((mask_reg ..).trans rfl)

end Sys2Proof.Laws
end

