-- ==== Sys2Proof/Tests/Slice0.lean ====
section
/-!
SUPPORT. Tests of the model against the encodings of spec/30_encoding.md R85 and the vectors of
spec/95_test_vectors.md (named in each comment), each about one decode or one step, and for every
obligation with hypotheses a witness that meets them.
-/

namespace Sys2Proof.Tests

open Sys2Proof Sys2Proof.Machine

/-! ### Helpers -/

/-- Whether one step of the word, placed at the PC of the state, ends in a state of which `p` holds. -/
def after (s : State) (w : Nat) (p : State → Bool) : Bool :=
  match step (s.withFetchWord 16 w) with
  | .next t => p t
  | .fault _ => false
  | .refused _ => false

/-- Whether a step of the state as it stands latches the cause with A and the word. -/
def fetchFaults (s : State) (c : FaultCause) (w : Option Word) : Bool :=
  match step s with
  | .next t => t.fault == some { cause := c, pc := s.pc, word := w } && t.pc == s.pc
  | .fault _ => false
  | .refused _ => false

/-- Whether one step of the word placed at PC latches the cause, with A and the word, and leaves PC. -/
def faults (s : State) (w : Nat) (c : FaultCause) : Bool :=
  fetchFaults (s.withFetchWord 16 w) c (some (BitVec.ofNat 16 w))

/-- The reset state with two registers set. -/
def withV (x : Nibble) (a : Byte) (y : Nibble) (b : Byte) : State := (State.reset.setV x a).setV y b

/-- The reset state of a core with other parameters of R8 (c) and (d). -/
def resetWithParams (link : CallLink) (eq : Bool) (order : VfOrder) : State :=
  State.resetAt { Config.defaults with callLink := link, subEqFlag := eq, vfOrder := order }

/-- The reset state with I set and bytes stored there. -/
def withI (i : Word) (bs : List Byte) : State := (State.reset.setI i).storeAtIndex bs

/-- The state with one pixel set. -/
def lit (s : State) (y : Fin 32) (x : Fin 64) : State := { s with fb := s.fb.flip y x }

/-- The reset state with timers set. -/
def withTimers (dt st : Byte) : State := (State.reset.setDt dt).setSt st

/-- The lit pixels of a row, as the row's word with column 0 at bit 0. -/
def row (t : State) (y : Fin 32) : BitVec 64 := t.fb[y.val]

/-! ### Well-formedness: each check refuses an ill-formed term -/

theorem test_wf_row_refused : ¬ OpcodeRow.WellFormed ⟨1, "00E0", 0x00E0, 0xFF0F⟩ := by decide

theorem test_wf_image_refused : ¬ ImageFits (List.replicate 3585 0) :=
  fun h => absurd (List.length_replicate.symm.trans_le h) (by decide)

theorem test_wf_map : ∀ r ∈ opcodeMap, r.WellFormed := by decide

/-! ### Decoding: words written out from the row's fields of R85 -/

theorem test_decode_cls : decodeWord 0x00E0 = .ok .cls := by decide
theorem test_decode_ret : decodeWord 0x00EE = .ok .ret := by decide
theorem test_decode_jp : decodeWord 0x1ABC = .ok (.jp 0xABC) := by decide
theorem test_decode_call : decodeWord 0x2FED = .ok (.call 0xFED) := by decide
theorem test_decode_seImm : decodeWord 0x3A7C = .ok (.seImm 10 0x7C) := by decide
theorem test_decode_sneImm : decodeWord 0x4B81 = .ok (.sneImm 11 0x81) := by decide
theorem test_decode_seReg : decodeWord 0x5120 = .ok (.seReg 1 2) := by decide
theorem test_decode_ldImm : decodeWord 0x6F12 = .ok (.ldImm 15 0x12) := by decide
theorem test_decode_addImm : decodeWord 0x7C34 = .ok (.addImm 12 0x34) := by decide
theorem test_decode_ldReg : decodeWord 0x8340 = .ok (.ldReg 3 4) := by decide
theorem test_decode_orReg : decodeWord 0x8561 = .ok (.orReg 5 6) := by decide
theorem test_decode_andReg : decodeWord 0x8782 = .ok (.andReg 7 8) := by decide
theorem test_decode_xorReg : decodeWord 0x89A3 = .ok (.xorReg 9 10) := by decide
theorem test_decode_addReg : decodeWord 0x8BC4 = .ok (.addReg 11 12) := by decide
theorem test_decode_subReg : decodeWord 0x8DE5 = .ok (.subReg 13 14) := by decide
theorem test_decode_shr : decodeWord 0x8F06 = .ok (.shr 15 0) := by decide
theorem test_decode_subnReg : decodeWord 0x8127 = .ok (.subnReg 1 2) := by decide
theorem test_decode_shl : decodeWord 0x834E = .ok (.shl 3 4) := by decide
theorem test_decode_sneReg : decodeWord 0x9560 = .ok (.sneReg 5 6) := by decide
theorem test_decode_ldI : decodeWord 0xA2F0 = .ok (.ldI 0x2F0) := by decide
theorem test_decode_jpV0 : decodeWord 0xB500 = .ok (.jpV0 0x500) := by decide
theorem test_decode_rnd : decodeWord 0xC7F0 = .ok (.rnd 7 0xF0) := by decide
theorem test_decode_drw : decodeWord 0xD125 = .ok (.drw 1 2 5) := by decide
theorem test_decode_skp : decodeWord 0xE79E = .ok (.skp 7) := by decide
theorem test_decode_sknp : decodeWord 0xE8A1 = .ok (.sknp 8) := by decide
theorem test_decode_ldVxDt : decodeWord 0xF907 = .ok (.ldVxDt 9) := by decide
theorem test_decode_ldVxK : decodeWord 0xFA0A = .ok (.ldVxK 10) := by decide
theorem test_decode_ldDtVx : decodeWord 0xFB15 = .ok (.ldDtVx 11) := by decide
theorem test_decode_ldStVx : decodeWord 0xFC18 = .ok (.ldStVx 12) := by decide
theorem test_decode_addI : decodeWord 0xFD1E = .ok (.addI 13) := by decide
theorem test_decode_ldF : decodeWord 0xFE29 = .ok (.ldF 14) := by decide
theorem test_decode_ldB : decodeWord 0xFF33 = .ok (.ldB 15) := by decide
theorem test_decode_storeRegs : decodeWord 0xF055 = .ok (.storeRegs 0) := by decide
theorem test_decode_loadRegs : decodeWord 0xF165 = .ok (.loadRegs 1) := by decide

/-- R76 to R80, C1 to C5: the words next to valid ones are invalid. -/
theorem test_decode_invalid :
    ([0x0123, 0x01E0, 0x00E1, 0x5121, 0x8008, 0x800D, 0x800F, 0x9001, 0xE09F, 0xE0A0, 0xF0FF, 0xF066] :
      List Word).all (fun w => decodeWord w == .error (.invalidOpcode w)) = true := by decide

/-- R70: an instruction has two bytes, the high one first, and one byte is not an instruction. -/
theorem test_decode_bytes :
    decodeBytes [0x6A, 0x05, 0x3A] = .ok (.ldImm 10 5, [0x3A]) ∧
      decodeBytes [0x6A] = .error .truncated := by decide

/-- The table's numbering: bit 0 is the least significant bit of the word. -/
theorem test_decodeTableWord :
    decodeTableWord 16 0xD125 = some (.drw 1 2 5) ∧ decodeTableWord 16 0x5121 = none := by decide

/-! ### The step, L2.1 -/

/-- C6: the last word of memory is fetched, and the PC after it is out of bounds. -/
theorem test_fetch_last :
    after (State.reset.setPc 0xFFE) 0x6001 (fun t => t.vreg 0 == 1 && t.pc == 0x1000) = true ∧
    fetchFaults (State.reset.setPc 0x1000) (.fetchOutOfBounds 0x1000) none = true := by decide

/-- C7: PC = 0xFFF faults before any read. -/
theorem test_fetch_out_of_bounds :
    (State.reset.setPc 0xFFF).fetchWord = none ∧
    fetchFaults (State.reset.setPc 0xFFF) (.fetchOutOfBounds 0xFFF) none = true := by decide

/-- C8: no alignment check. -/
theorem test_fetch_odd :
    after (State.reset.setPc 0x201) 0x6A07 (fun t => t.vreg 10 == 7 && t.pc == 0x203) = true := by decide

/-- C9: timers and beep after a plain instruction. -/
theorem test_timers :
    after (withTimers 5 1) 0x6000 (fun t => t.dt == 4 && t.st == 0 && t.pc == 0x202 &&
      t.result == some (.ok true)) = true := by decide

/-- C10: no timer phase and no beep on a fault. -/
theorem test_invalid_opcode :
    faults (withTimers 5 1) 0x5121 (.invalidOpcode 0x5121 0x200) = true ∧
    after (withTimers 5 1) 0x5121 (fun t => t.dt == 5 && t.st == 1) = true := by decide

/-- From reset with nothing loaded the first word is 0x0000 (E10, last row). -/
theorem test_reset_step :
    fetchFaults State.reset (.invalidOpcode 0x0000 0x200) (some 0x0000) = true := by decide

/-! ### Display, L2.2 -/

/-- D1. -/
theorem test_cls :
    after (lit (lit State.reset 0 0) 31 63) 0x00E0 (fun t => t.fb == Frame.clear && t.draw &&
      t.pc == 0x202) = true := by decide

/-- D3: wrap in x and in y; columns 62, 63 and 0 to 5 of rows 30 and 31. -/
theorem test_drw_wraps :
    after ((withI 0x300 [0xFF, 0xFF]).setV 0 62 |>.setV 1 30) 0xD012 (fun t =>
      row t 30 == 0xC00000000000003F && row t 31 == 0xC00000000000003F && row t 0 == 0 &&
      t.vreg 15 == 0 && t.draw) = true := by decide

/-- D9: a partial overlap, the leftmost pixel the most significant bit; D6: x from the old VF. -/
theorem test_drw_collides :
    after (lit (withI 0x300 [0xC0]) 0 0) 0xD011 (fun t => row t 0 == 2 && t.vreg 15 == 1) = true ∧
    after ((withI 0x300 [0x80]).setV 15 10) 0xDF11 (fun t => row t 0 == 0x400 && t.vreg 15 == 0) = true := by
  decide

/-! ### Control flow, L2.3 -/

/-- F2, and F1. -/
theorem test_ret :
    after { State.reset with sp := 2, stk := (State.reset.stk.set 0 0x250).set 1 0x300 } 0x00EE
      (fun t => t.sp == 1 && t.pc == 0x302) = true ∧
    faults State.reset 0x00EE .stackUnderflow = true := by decide

/-- F7. -/
theorem test_jp : after State.reset 0x1FFF (fun t => t.pc == 0xFFF) = true := by decide

/-- F3, and F4. -/
theorem test_call :
    after { State.reset with sp := 15 } 0x2300
      (fun t => t.sp == 16 && t.stk[15] == 0x200 && t.pc == 0x300) = true ∧
    faults { State.reset with sp := 16 } 0x2300 .stackOverflow = true := by decide

/-- F6: under ADVANCED_PC the call pushes 0x202, and 00EE with it on the stack goes to 0x204. -/
theorem test_call_advanced :
    after (resetWithParams .advancedPc false .dataLast) 0x2300 (fun t => t.stk[0] == 0x202 && t.sp == 1) = true ∧
    after { State.reset with sp := 1, stk := State.reset.stk.set 0 0x202 } 0x00EE
      (fun t => t.sp == 0 && t.pc == 0x204) = true := by decide

/-- F9 and F10. -/
theorem test_seImm :
    after State.reset 0x3000 (fun t => t.pc == 0x204) = true ∧
    after (withV 10 4 0 0) 0x3A05 (fun t => t.pc == 0x202) = true := by decide

/-- F11 and F12. -/
theorem test_sneImm :
    after State.reset 0x4000 (fun t => t.pc == 0x202) = true ∧
    after State.reset 0x4101 (fun t => t.pc == 0x204) = true := by decide

/-- F13 and F15. -/
theorem test_seReg :
    after (withV 3 9 4 8) 0x5330 (fun t => t.pc == 0x204) = true ∧
    after (withV 3 9 4 8) 0x5340 (fun t => t.pc == 0x202) = true := by decide

/-- F14 and F16. -/
theorem test_sneReg :
    after (withV 3 9 4 8) 0x9330 (fun t => t.pc == 0x202) = true ∧
    after (withV 3 9 4 8) 0x9340 (fun t => t.pc == 0x204) = true := by decide

/-- F17: a skip at the top of memory. -/
theorem test_skip_top : after (State.reset.setPc 0xFFE) 0x3000 (fun t => t.pc == 0x1002) = true := by decide

/-- F18 and F19. -/
theorem test_jpV0 :
    after (withV 0 0xFF 5 0) 0xBFFF (fun t => t.pc == 0x10FE) = true ∧
    after (withV 0 2 5 9) 0xB500 (fun t => t.pc == 0x502) = true := by decide

/-! ### Registers and ALU, L2.4 -/

/-- A27. -/
theorem test_ldImm : after State.reset 0x6F12 (fun t => t.vreg 15 == 0x12 && t.pc == 0x202) = true := by
  decide

/-- A21 and A22. -/
theorem test_addImm :
    after (withV 0 0xFF 15 0x55) 0x7001 (fun t => t.vreg 0 == 0 && t.vreg 15 == 0x55) = true ∧
    after (withV 0 0 15 0xFF) 0x7F01 (fun t => t.vreg 15 == 0) = true := by decide

/-- A26. -/
theorem test_ldReg : after (withV 0 0 1 0x42) 0x8010 (fun t => t.vreg 0 == 0x42) = true := by decide

/-- A23. -/
theorem test_orReg : after (withV 0 0x0F 1 0xF0) 0x8011 (fun t => t.vreg 0 == 0xFF) = true := by decide

/-- A24. -/
theorem test_andReg : after (withV 0 0x3C 1 0x0F) 0x8012 (fun t => t.vreg 0 == 0x0C) = true := by decide

/-- A25, and the bitwise rule R155 on 0x3C and 0x0F. -/
theorem test_xorReg :
    after (withV 0 0x5A 1 0) 0x8003 (fun t => t.vreg 0 == 0) = true ∧
    after (withV 0 0x3C 1 0x0F) 0x8013 (fun t => t.vreg 0 == 0x33) = true := by decide

/-- A1, A2 and A3. -/
theorem test_addReg :
    after (withV 0 0xFF 1 1) 0x8014 (fun t => t.vreg 0 == 0 && t.vreg 15 == 1) = true ∧
    after (withV 0 0xFE 1 1) 0x8014 (fun t => t.vreg 0 == 0xFF && t.vreg 15 == 0) = true ∧
    after (withV 0 0x80 1 0) 0x8004 (fun t => t.vreg 0 == 0 && t.vreg 15 == 1) = true := by decide

/-- A4, A5 and A6: VF as an operand. -/
theorem test_addReg_vf :
    after (withV 0 0x20 15 0xF0) 0x8F04 (fun t => t.vreg 15 == 0x10) = true ∧
    after (withV 0 1 15 0xFF) 0x80F4 (fun t => t.vreg 0 == 0 && t.vreg 15 == 1) = true ∧
    after (withV 0 0 15 0x90) 0x8FF4 (fun t => t.vreg 15 == 0x20) = true := by decide

/-- A8, A9 and A7. -/
theorem test_subReg :
    after (withV 0 10 1 5) 0x8015 (fun t => t.vreg 0 == 5 && t.vreg 15 == 1) = true ∧
    after (withV 0 5 1 10) 0x8015 (fun t => t.vreg 0 == 0xFB && t.vreg 15 == 0) = true ∧
    after ((withV 0 7 1 7).setV 15 1) 0x8015 (fun t => t.vreg 0 == 0 && t.vreg 15 == 0) = true := by decide

/-- A10. -/
theorem test_subReg_vf : after (withV 15 10 1 3) 0x8F15 (fun t => t.vreg 15 == 7) = true := by decide

/-- A14, A15 and A17. -/
theorem test_shr :
    after (withV 0 0x81 1 0) 0x8006 (fun t => t.vreg 0 == 0x40 && t.vreg 15 == 1) = true ∧
    after (withV 0 0 15 1) 0x8006 (fun t => t.vreg 0 == 0 && t.vreg 15 == 0) = true ∧
    after (withV 0 2 1 0xFF) 0x8016 (fun t => t.vreg 0 == 1 && t.vreg 15 == 0) = true := by decide

/-- A16. -/
theorem test_shr_vf : after (withV 0 0 15 3) 0x8F06 (fun t => t.vreg 15 == 1) = true := by decide

/-- A11, A12 and A13. -/
theorem test_subnReg :
    after (withV 0 5 1 10) 0x8017 (fun t => t.vreg 0 == 5 && t.vreg 15 == 1) = true ∧
    after (withV 0 10 1 5) 0x8017 (fun t => t.vreg 0 == 0xFB && t.vreg 15 == 0) = true ∧
    after ((withV 0 7 1 7).setV 15 1) 0x8017 (fun t => t.vreg 0 == 0 && t.vreg 15 == 0) = true := by decide

/-- A18 and A19. -/
theorem test_shl :
    after (withV 0 0x80 1 0) 0x800E (fun t => t.vreg 0 == 0 && t.vreg 15 == 1) = true ∧
    after (withV 0 0x7F 15 1) 0x800E (fun t => t.vreg 0 == 0xFE && t.vreg 15 == 0) = true := by decide

/-- A20. -/
theorem test_shl_vf : after (withV 0 0 15 0x81) 0x8F0E (fun t => t.vreg 15 == 2) = true := by decide

/-- A28 and A29: the byte the host named. -/
theorem test_rnd :
    after { State.reset with rndIn := some 0xA7 } 0xC30F (fun t => t.vreg 3 == 7) = true ∧
    after { State.reset with rndIn := some 0xA7 } 0xC300 (fun t => t.vreg 3 == 0) = true := by decide

/-! ### Index register and memory, L2.5 -/

/-- M1. -/
theorem test_ldI : after State.reset 0xA2F0 (fun t => t.i == 0x2F0) = true := by decide

/-- M2, M3 and M4. -/
theorem test_addI :
    after (((withI 0xFFF []).setV 2 1)) 0xF21E (fun t => t.i == 0x1000 && t.vreg 15 == 1) = true ∧
    after (((withI 0xFFE []).setV 2 1)) 0xF21E (fun t => t.i == 0xFFF && t.vreg 15 == 0) = true ∧
    after (withI 0x1000 []) 0xF21E (fun t => t.i == 0x1000 && t.vreg 15 == 1) = true := by decide

/-- M6, and M7: the old VF is added. -/
theorem test_addI_edges :
    faults ((withI 0xFFFF []).setV 2 1) 0xF21E (.indexOverflow 0xFFFF 1) = true ∧
    after ((withI 0x100 []).setV 15 0x10) 0xFF1E (fun t => t.i == 0x110 && t.vreg 15 == 0) = true := by decide

/-- M8 and M9. -/
theorem test_ldF :
    after (withV 4 10 0 0) 0xF429 (fun t => t.i == 0x32) = true ∧
    after (withV 4 0xFF 0 0) 0xF429 (fun t => t.i == 0x4FB) = true := by decide

/-- M10 and M11. -/
theorem test_ldB :
    after ((withI 0x300 []).setV 5 255) 0xF533 (fun t => t.peek 0x300 == 2 &&
      t.peek 0x301 == 5 && t.peek 0x302 == 5 && t.i == 0x300) = true ∧
    after (withI 0x300 [9, 9, 9]) 0xF533 (fun t => t.peek 0x300 == 0 &&
      t.peek 0x302 == 0) = true := by decide

/-- M13: out of range, and memory unchanged. -/
theorem test_ldB_range :
    faults ((withI 0xFFE [7]).setV 5 156) 0xF533 (.memoryOutOfBounds 0xFFE 3) = true ∧
    after ((withI 0xFFE [7]).setV 5 156) 0xF533 (fun t => t.peek 0xFFE == 7) = true := by decide

/-- M14. -/
theorem test_storeRegs :
    after (((withI 0x300 [0, 0x77]).setV 0 0xAB).setV 1 0xCD) 0xF055 (fun t =>
      t.peek 0x300 == 0xAB && t.peek 0x301 == 0x77 && t.i == 0x301) = true := by decide

/-- M15's last byte and I, M16. -/
theorem test_storeRegs_top :
    after ((withI 0xFF0 []).setV 15 0x10) 0xFF55 (fun t =>
      t.peek 0xFFF == 0x10 && t.i == 0x1000) = true ∧
    faults (withI 0xFF1 []) 0xFF55 (.memoryOutOfBounds 0xFF1 16) = true := by decide

/-- M18, and the last register of M17. -/
theorem test_loadRegs :
    after ((withI 0x300 [1, 2, 3]).setV 2 0x77) 0xF165 (fun t => t.vreg 0 == 1 && t.vreg 1 == 2 &&
      t.vreg 2 == 0x77 && t.i == 0x302) = true ∧
    after { withI 0x30F [0x1F] with i := 0x300 } 0xFF65 (fun t => t.vreg 15 == 0x1F &&
      t.i == 0x310) = true := by decide

/-! ### Input and timers, L2.6 -/

/-- K1, K2 and K5. -/
theorem test_skp :
    after { withV 0 5 1 0 with key := 0x20 } 0xE09E (fun t => t.pc == 0x204) = true ∧
    after (withV 0 5 1 0) 0xE09E (fun t => t.pc == 0x202) = true ∧
    faults (withV 0 16 1 0) 0xE09E (.keyIndexOutOfRange 16) = true := by decide

/-- K3, K4 and K6. -/
theorem test_sknp :
    after (withV 0 5 1 0) 0xE0A1 (fun t => t.pc == 0x204) = true ∧
    after { withV 0 5 1 0 with key := 0x20 } 0xE0A1 (fun t => t.pc == 0x202) = true ∧
    faults (withV 0 0xFF 1 0) 0xE0A1 (.keyIndexOutOfRange 0xFF) = true := by decide

/-- K7. -/
theorem test_ldVxDt :
    after (withTimers 4 0) 0xF307 (fun t => t.vreg 3 == 4 && t.dt == 3) = true := by decide

/-- K9. -/
theorem test_ldVxK :
    after { withTimers 5 2 with key := 0x208 } 0xF10A (fun t => t.vreg 1 == 9 && t.dt == 4 && t.st == 1 &&
      t.pc == 0x202) = true := by decide

/-- K11 and K12: the wait freezes PC and the timers, and does not beep. -/
theorem test_ldVxK_waits :
    after { withTimers 5 1 with pc := 0x204 } 0xF10A (fun t => t.pc == 0x204 && t.dt == 5 && t.st == 1 &&
      t.result == some (.ok false)) = true := by decide

/-- K13 and K14. -/
theorem test_ldDtVx :
    after (withV 2 5 0 0) 0xF215 (fun t => t.dt == 4) = true ∧
    after (withTimers 9 0) 0xF215 (fun t => t.dt == 0) = true := by decide

/-- K15, K16 and K17. -/
theorem test_ldStVx :
    after (withV 2 1 0 0) 0xF218 (fun t => t.st == 0 && t.result == some (.ok true)) = true ∧
    after (withTimers 0 1) 0xF218 (fun t => t.st == 0 && t.result == some (.ok false)) = true ∧
    after (withV 2 5 0 0) 0xF218 (fun t => t.st == 4) = true := by decide

/-! ### Reset, L2.7 -/

/-- Z2: copying the default font into empty memory gives the reset image, whose first and last glyphs are
these. -/
theorem test_reset_font :
    Memory.pokeAll Config.fontRom [] Config.fontBase Config.fontRom.toList = [] ∧
    (List.range 5).map State.reset.peek = [0xF0, 0x90, 0x90, 0x90, 0xF0] ∧
    (List.range 5).map (fun k => State.reset.peek (0x4B + k)) = [0xF0, 0x80, 0xF0, 0x80, 0x80] ∧
    State.reset.peek 0x50 = 0 := by decide

/-- Z4: the image's bytes at 0x200, and nothing else (a zero byte is what memory reads as there). -/
theorem test_reset_image :
    (State.construct Config.defaults [0x12, 0x00]).mem = [(0x200, 0x12)] := by
  rw [State.construct_eq]
  decide

/-- R8: a core made with another FONT_ROM has it in memory after Reset(P). -/
theorem test_reset_other_font :
    (State.resetAt { Config.defaults with fontRom := Vector.replicate 80 0xA5 }).peek 79 = 0xA5 ∧
    (State.resetAt { Config.defaults with fontRom := Vector.replicate 80 0xA5 }).peek 80 = 0 := by decide

/-! ### Parameters and codes -/

/-- U8: with P_SUB_EQ_FLAG = 1, equal operands leave VF = 1 (A7 has the default). -/
theorem test_sub_eq_flag :
    after (((resetWithParams .fetchAddr true .dataLast).setV 0 7).setV 1 7) 0x8015
      (fun t => t.vreg 0 == 0 && t.vreg 15 == 1) = true := by decide

/-- U9: 8FY4 with VF = 0xF0 and V0 = 0x20 leaves the carry under FLAG_LAST; 8XF4 with V0 = 1 and VF = 0xFF
adds the new VF, which is the carry, under SEQUENTIAL. -/
theorem test_vf_order :
    after (((resetWithParams .fetchAddr false .flagLast).setV 0 0x20).setV 15 0xF0) 0x8F04
      (fun t => t.vreg 15 == 1) = true ∧
    after (((resetWithParams .fetchAddr false .sequential).setV 0 1).setV 15 0xFF) 0x80F4
      (fun t => t.vreg 0 == 2 && t.vreg 15 == 1) = true := by decide

/-- R211: the eight codes, in the table's order. -/
theorem test_fault_codes :
    ([.invalidOpcode 0 0, .fetchOutOfBounds 0, .stackUnderflow, .stackOverflow, .memoryOutOfBounds 0 0,
      .keyIndexOutOfRange 0, .indexOverflow 0 0] : List FaultCause).map FaultCause.code =
      [1, 2, 3, 4, 5, 6, 7] ∧ Fault.loadTooLarge.code = 8 := by decide

/-- R112: the ports of K5's fault. -/
theorem test_fault_ports :
    after (withV 0 16 1 0) 0xE09E (fun t => t.faultCodePort == some 6 && t.faultPcPort == some 0x200 &&
      t.faultWordPort == some 0xE09E && t.faultInfoPort == some 16) = true := by decide

/-! ### Witnesses: the hypotheses of every obligation can be met, clause by clause -/

/-- A state with a word at 0x200, the default place of a test. -/
def holding (w : Nat) : State := State.reset.withFetchWord 16 w

/-- The faulted state of C10. -/
def faulted : State := (holding 0x5121).raise (.invalidOpcode 0x5121 0x200)

theorem witness_EncodeOfDecode : decodeWord 0x8AB5 = .ok (.subReg 0xA 0xB) := by decide

theorem witness_DecodeFollowsOpcodeMap :
    (⟨15, "8XY5", 0x8005, 0xF00F⟩ : OpcodeRow) ∈ opcodeMap ∧ (0x8AB5 : Word) &&& 0xF00F = 0x8005 := by decide

/-- One word for each of the five families of invalid words. -/
theorem witness_InvalidWordsAreExactlyThese :
    (fieldF 0x0123 = 0x0 ∧ (0x0123 : Word) ≠ 0x00E0 ∧ (0x0123 : Word) ≠ 0x00EE) ∧
    (fieldF 0x9001 = 0x9 ∧ fieldN 0x9001 ≠ 0) ∧
    (fieldF 0x8008 = 0x8 ∧ 8 ≤ (fieldN 0x8008).toNat ∧ fieldN 0x8008 ≠ 0xE) ∧
    (fieldF 0xE09F = 0xE ∧ fieldNN 0xE09F ≠ 0x9E ∧ fieldNN 0xE09F ≠ 0xA1) ∧
    (fieldF 0xF066 = 0xF ∧
      fieldNN 0xF066 ∉ [0x07, 0x0A, 0x15, 0x18, 0x1E, 0x29, 0x33, 0x55, 0x65]) := by decide

theorem witness_FetchIsBigEndian : (State.reset.setPc 4094).pc.toNat ≤ 4094 := by decide

theorem witness_StepRunsDecodedInstruction :
    (holding 0x6A05).fault = none ∧ (holding 0x6A05).pc.toNat ≤ 4094 ∧
    decodeBytes [(holding 0x6A05).peek (holding 0x6A05).pc.toNat,
      (holding 0x6A05).peek ((holding 0x6A05).pc.toNat + 1)] = .ok (.ldImm 10 5, []) := by decide

theorem witness_StepReturnsOkOrFault :
    (∃ t, step (holding 0x6A05) = .next t ∧ t.fault = none) ∧
    (∃ t, step (holding 0x5121) = .next t ∧ t.fault ≠ none) :=
  ⟨⟨_, rfl, by decide⟩, ⟨_, rfl, by decide⟩⟩

theorem witness_FetchAndDecodeFaultsAreTaken :
    (State.reset.setPc 4095).fault = none ∧ 4094 < (State.reset.setPc 4095).pc.toNat ∧
    (holding 0x5121).fault = none ∧ (holding 0x5121).fetchWord = some 0x5121 ∧
    decodeWord 0x5121 = .error (.invalidOpcode 0x5121) := by decide

theorem witness_FaultingStepCommitsNothing :
    (holding 0x00EE).fault = none ∧ ∃ t, step (holding 0x00EE) = .next t ∧
      t.fault = some { cause := .stackUnderflow, pc := 0x200, word := some 0x00EE } :=
  ⟨rfl, _, rfl, by decide⟩

/-- The same of no fault and of a fault. -/
theorem witness_FaultsAreThoseOfTheTable :
    stepFault (holding 0x6A05) = none ∧ stepFault (holding 0x00EE) = some .stackUnderflow ∧
    (holding 0x00EE).fault = none ∧ ∃ t, step (holding 0x00EE) = .next t :=
  ⟨by decide, by decide, rfl, _, rfl⟩

theorem witness_FaultedCoreIsQuiescent :
    faulted.fault = some { cause := .invalidOpcode 0x5121 0x200, pc := 0x200, word := some 0x5121 } := by
  decide

/-- An instruction that is not FX0A, and FX0A with a key pressed. -/
theorem witness_TimersCountDownOncePerStep :
    ((holding 0xF215).fault = none ∧ (holding 0xF215).fetchWord = some 0xF215 ∧
      decodeWord 0xF215 = .ok (.ldDtVx 2) ∧ (∀ x, Instr.ldDtVx 2 ≠ .ldVxK x) ∧
      ∃ u, exec (.ldDtVx 2) (holding 0xF215) = .next u ∧ u.fault = none) ∧
    (decodeWord 0xF10A = .ok (.ldVxK 1) ∧ ((holding 0xF10A).setKeys 8).fault = none ∧
      ((holding 0xF10A).setKeys 8).fetchWord = some 0xF10A ∧ ((holding 0xF10A).setKeys 8).key ≠ 0 ∧
      ∃ u, exec (.ldVxK 1) ((holding 0xF10A).setKeys 8) = .next u ∧ u.fault = none) :=
  ⟨⟨rfl, by decide, by decide, nofun, _, rfl, rfl⟩, by decide, rfl, by decide, by decide, _, rfl, by decide⟩

/-- The hypotheses are those of the timer statement; the beep is 1 from a sound timer of 1. -/
theorem witness_BeepIsTheSoundTimersLastTick :
    ((holding 0x6000).setSt 1).fault = none ∧ ((holding 0x6000).setSt 1).fetchWord = some 0x6000 ∧
    decodeWord 0x6000 = .ok (.ldImm 0 0) ∧ (∀ x, Instr.ldImm 0 0 ≠ .ldVxK x) ∧
    ∃ u, exec (.ldImm 0 0) ((holding 0x6000).setSt 1) = .next u ∧ u.fault = none ∧ u.st.toNat = 1 :=
  ⟨rfl, by decide, by decide, nofun, _, rfl, rfl, rfl⟩

theorem witness_KeyWaitFreezesTheCore :
    (holding 0xF10A).fault = none ∧ (holding 0xF10A).fetchWord = some 0xF10A ∧
    decodeWord 0xF10A = .ok (.ldVxK 1) ∧ (holding 0xF10A).key = 0 := by decide

/-- The invariant holds at reset, and at a state with a word, so a step that completes has it before. -/
theorem witness_reset_inv : State.reset.Inv :=
  ⟨Memory.nil_wf, by decide, by decide, nofun⟩

theorem witness_StepKeepsInvariant :
    (holding 0x6A05).Inv ∧ ∃ t, step (holding 0x6A05) = .next t :=
  ⟨⟨by decide, by decide, by decide, nofun⟩, _, rfl⟩

/-- A latched fault meets the invariant as well. -/
theorem witness_faulted_inv : faulted.Inv :=
  ⟨by decide, by decide, by decide, fun r h => by
    simp only [faulted, State.raise_fault, Option.some.injEq] at h
    subst h
    exact ⟨rfl, rfl⟩⟩

theorem witness_HostOpsKeepInvariant :
    State.reset.Inv ∧ (∃ t, hostOp (.reset [0x12, 0x00]) State.reset = .next t) ∧
    (∃ t, hostOp (.step 0) State.reset = .next t) ∧ (∃ t, hostOp (.setKeys 1) State.reset = .next t) :=
  ⟨witness_reset_inv, ⟨_, rfl⟩, ⟨_, rfl⟩, _, rfl⟩

theorem witness_CanonicalMemoryIsUnique :
    Memory.wf Config.fontRom [(0x300, 1), (0x301, 2)] ∧
    Memory.poke Config.fontRom (Memory.poke Config.fontRom [] 0x301 2) 0x300 1 = [(0x300, 1), (0x301, 2)] := by
  decide

/-- The longest image that fits. -/
theorem witness_ResetConstructsTheState : (List.replicate 3584 (0xFF : Byte)).length ≤ 3584 :=
  List.length_replicate.le

/-- The shortest that does not. -/
theorem witness_OversizedImageIsRefused : 3584 < (List.replicate 3585 (0xFF : Byte)).length :=
  (by decide : 3584 < 3585).trans_eq List.length_replicate.symm

theorem witness_OnlyStoresWriteMemory :
    (∀ x, Instr.loadRegs 2 ≠ .ldB x) ∧ (∀ x, Instr.loadRegs 2 ≠ .storeRegs x) ∧
    ∃ t, exec (.loadRegs 2) State.reset = .next t :=
  ⟨nofun, nofun, _, rfl⟩

/-- Another instruction, 00E0, DXYN in range, and DXYN out of range. -/
theorem witness_OnlyDisplayWritesScreen :
    (Instr.ldI 1 ≠ .cls ∧ (∀ x y n, Instr.ldI 1 ≠ .drw x y n) ∧ ∃ t, exec (.ldI 1) State.reset = .next t) ∧
    (∃ t, exec .cls State.reset = .next t) ∧
    (∃ t, exec (.drw 0 1 5) State.reset = .next t ∧ State.reset.fault = none ∧ t.fault = none) ∧
    (∃ t, exec (.drw 0 1 5) (withI 0xFFF []) = .next t ∧ t.fault ≠ none) :=
  ⟨⟨nofun, nofun, _, rfl⟩, ⟨_, rfl⟩, ⟨_, rfl, rfl, by decide⟩, _, rfl, by decide⟩

theorem witness_OnlyCallAndReturnUseTheStack :
    Instr.jp 0x300 ≠ .ret ∧ (∀ a, Instr.jp 0x300 ≠ .call a) ∧
    ∃ t, exec (.jp 0x300) State.reset = .next t :=
  ⟨nofun, nofun, _, rfl⟩

theorem witness_KeysAreTheHostsAlone :
    (∃ t, step (holding 0x6A05) = .next t) ∧
    (∀ x, Instr.drw 0 1 5 ≠ .skp x) ∧ (∀ x, Instr.drw 0 1 5 ≠ .sknp x) ∧
    (∀ x, Instr.drw 0 1 5 ≠ .ldVxK x) ∧ ∃ t, exec (.drw 0 1 5) State.reset = .next t :=
  ⟨⟨_, rfl⟩, nofun, nofun, nofun, _, rfl⟩

theorem witness_OnlyListedInstructionsWriteIndex :
    ¬ WritesIndex (.ldB 3) ∧ ∃ t, exec (.ldB 3) State.reset = .next t :=
  ⟨id, _, rfl⟩

/-- A register above X of a load, and a register beside VF of a flag writer. -/
theorem witness_RegisterWritesAreThoseOfTheTable :
    ¬ WritesReg (.loadRegs 2) 3 ∧ ¬ WritesReg (.addReg 1 2) 2 ∧
    (∃ t, exec (.loadRegs 2) State.reset = .next t) ∧ ∃ t, exec (.addReg 1 2) State.reset = .next t :=
  ⟨by simp [WritesReg], by simp [WritesReg], ⟨_, rfl⟩, _, rfl⟩

theorem witness_OnlyControlFlowWritesPc :
    ¬ WritesPc (.loadRegs 2) ∧ State.reset.fault = none ∧
    ∃ t, exec (.loadRegs 2) State.reset = .next t ∧ t.fault = none :=
  ⟨id, rfl, _, rfl, by decide⟩

/-- A reading operation of the host. -/
theorem witness_HostOpsAlwaysAnswer : hostOp .readDraw State.reset = .next State.reset := rfl

/-- Each timer instruction, and an instruction that is none of the three. -/
theorem witness_OnlyTimerInstructionsUseTheTimers :
    (∃ t, exec (.ldDtVx 1) State.reset = .next t) ∧ (∃ t, exec (.ldStVx 1) State.reset = .next t) ∧
    (∃ t, exec (.ldVxDt 1) State.reset = .next t) ∧
    (∀ x, Instr.cls ≠ .ldDtVx x) ∧ (∀ x, Instr.cls ≠ .ldStVx x) ∧ (∀ x, Instr.cls ≠ .ldVxDt x) ∧
    ∃ t, exec .cls State.reset = .next t :=
  ⟨⟨_, rfl⟩, ⟨_, rfl⟩, ⟨_, rfl⟩, nofun, nofun, nofun, _, rfl⟩

/-- D8's range at its end (I + N = 4096), with its pixel covered and the one beside it not. -/
theorem witness_DrwXorsTheSprite :
    (withI 0xFFD [0x80]).i.toNat + (3 : Nibble).toNat ≤ 4096 ∧
    SpriteCovers (withI 0xFFD [0x80]) 0 1 3 0 0 ∧ ¬ SpriteCovers (withI 0xFFD [0x80]) 0 1 3 0 63 := by
  refine ⟨by decide, ⟨0, 0, by decide, by decide, by decide, by decide, by decide⟩, ?_⟩
  rintro ⟨r, col, _, hc, _, _, h⟩
  rw [show (withI 0xFFD [0x80]).coordinate 0 = 0 by decide] at h
  have : (63 : Fin 64).val = 63 := rfl
  omega

/-- A covered pixel that was 1: the collision clause. -/
theorem witness_DrwXorsTheSprite_collision :
    SpriteCovers (lit (withI 0x300 [0x80]) 0 0) 0 1 1 0 0 ∧
    Frame.pixel (lit (withI 0x300 [0x80]) 0 0).fb 0 0 = true :=
  ⟨⟨0, 0, by decide, by decide, by decide, by decide, by decide⟩, by decide⟩

theorem witness_DrwTwiceRestoresTheScreen :
    State.reset.i.toNat + (5 : Nibble).toNat ≤ 4096 ∧
    ∃ t, exec (.drw 0 1 5) State.reset = .next t ∧ t.vreg 0 = State.reset.vreg 0 ∧
      t.vreg 1 = State.reset.vreg 1 :=
  ⟨by decide, _, rfl, by decide, by decide⟩

/-- The one target above 4094 that 1NNN can name, and the farthest target of BNNN. -/
theorem witness_jump_targets :
    4094 < (0xFFF : Addr12).toNat ∧ 4094 < (0xFFF : Addr12).toNat + ((withV 0 0xFF 1 0).vreg 0).toNat := by
  decide

/-- The last free place of the stack, and the first; the same states serve the call and return pair. -/
theorem witness_CallPushesFetchAddress :
    ({ State.reset with sp := 15 } : State).sp.val < 16 ∧ State.reset.sp.val < 16 := by decide

theorem witness_RetResumesAfterTheCall :
    ({ State.reset with sp := 1 } : State).sp.val = (0 : Fin 16).val + 1 ∧
    ({ State.reset with sp := 16 } : State).sp.val = (15 : Fin 16).val + 1 := by decide

theorem witness_StackFaultsAreTaken :
    ({ State.reset with sp := 16 } : State).sp.val = 16 ∧ State.reset.sp.val = 0 := by decide

/-- Both values of P_CALL_LINK, for the call alone and for the call and return. -/
theorem witness_CallThenReturnResumes :
    ({ State.reset with sp := 15 } : State).sp.val < 16 ∧ State.reset.params.callLink = .fetchAddr ∧
    (resetWithParams .advancedPc false .dataLast).params.callLink = .advancedPc ∧
    (resetWithParams .advancedPc false .dataLast).sp.val < 16 := by decide

/-- X ≠ 15, a register that is neither X nor VF, and the flag byte the clause speaks of: for 8XY4 and the
subtractions the one the conditional gives, for the shifts the one of the dropped bit. -/
theorem witness_flag_clauses :
    (14 : Nibble) ≠ 15 ∧ (13 : Nibble) ≠ 14 ∧ (13 : Nibble) ≠ 15 ∧
    ((1 : Byte) = if 255 < ((withV 0 0xFF 1 1).vreg 0).toNat + ((withV 0 0xFF 1 1).vreg 1).toNat then 1 else 0) ∧
    (1 : Byte).toNat = ((withV 0 0x81 1 0).vreg 0).toNat % 2 ∧
    (1 : Byte).toNat = ((withV 0 0x81 1 0).vreg 0).toNat / 128 := by decide

/-- A named byte, and a state that fetches CXNN for the host's Step. -/
theorem witness_RndMasksTheRandomByte :
    ({ State.reset with rndIn := some 0xA7 } : State).rndIn = some 0xA7 ∧
    (holding 0xC30F).fault = none ∧ (holding 0xC30F).fetchWord = some (encode (.rnd 3 0x0F)) := by decide

/-- The last sum that fits and the first that does not. -/
theorem witness_AddIndexCarriesPast0xFFF :
    ((withI 0xFF00 []).setV 2 0xFF).i.toNat + (((withI 0xFF00 []).setV 2 0xFF).vreg 2).toNat ≤ 0xFFFF ∧
    0xFFFF < ((withI 0xFFFF []).setV 2 1).i.toNat + (((withI 0xFFFF []).setV 2 1).vreg 2).toNat := by decide

/-- M12: the last place for three digits. -/
theorem witness_BcdStoresThreeDigits : (withI 0xFFD []).i.toNat + 3 ≤ 4096 := by decide

/-- M15: the last place for all sixteen registers, for FX55, FX65 and the round trip. -/
theorem witness_StoreRegistersFillsMemory :
    (withI 0xFF0 []).i.toNat + (15 : Nibble).toNat + 1 ≤ 4096 := by decide

theorem witness_LoadRegistersReadsMemory :
    (withI 0xFF0 []).i.toNat + (15 : Nibble).toNat + 1 ≤ 4096 ∧
    (2 : Nibble).toNat < (3 : Nibble).toNat := by decide

/-- The first address past the last place, for each of the three lengths. -/
theorem witness_RangeFaultsAreTaken :
    4096 < (withI 0xFFE []).i.toNat + (3 : Nibble).toNat ∧ 4096 < (withI 0xFFE []).i.toNat + 3 ∧
    4096 < (withI 0xFF1 []).i.toNat + ((15 : Nibble).toNat + 1) := by decide

/-- The state after the store, with I put back, meets the hypotheses on the later state. -/
theorem witness_StoreLoadRoundTrip :
    (withI 0xFF0 []).i.toNat + (15 : Nibble).toNat + 1 ≤ 4096 ∧
    ∃ t, exec (.storeRegs 15) (withI 0xFF0 []) = .next t ∧ (t.setI 0xFF0).i = (withI 0xFF0 []).i ∧
      ∀ a, (t.setI 0xFF0).peek a = t.peek a :=
  ⟨by decide, _, rfl, rfl, fun _ => rfl⟩

/-- FX55 at 0x200 with I = 0x201 stores V1 and V2 over the next word. -/
theorem witness_StoreIsSeenByTheNextFetch :
    (withI 0x201 []).i.toNat + (2 : Nibble).toNat + 1 ≤ 4096 ∧ (1 : Nibble).toNat + 1 ≤ (2 : Nibble).toNat ∧
    (withI 0x201 []).pc.toNat + 2 = (withI 0x201 []).i.toNat + (1 : Nibble).toNat := by decide

/-- VX = 15, the last key, and 16. -/
theorem witness_KeySkips :
    ((withV 0 15 1 0).vreg 0).toNat ≤ 15 ∧ 15 < ((withV 0 16 1 0).vreg 0).toNat := by decide

theorem witness_TimerInstructions : State.reset.fault = none := rfl

/-- A key pressed, and none, with no fault latched. -/
theorem witness_KeyReadTakesHighestKey :
    (State.reset.setKeys 0x8000).key ≠ 0 ∧ State.reset.key = 0 ∧ State.reset.fault = none := by decide

end Sys2Proof.Tests
end

section
/-!
PROOFS. The stack is used by 2NNN and 00EE alone (spec/10_state.md R28). The idea is one operation,
`State.withStack`, which puts another stack and stack pointer in a state: reads do not see it, writes
commute with it, and so does the meaning of every instruction but those two. Where an operation has no
branch, both hold by definition; the lemmas are about the operations that branch.
-/

namespace Sys2Proof.Machine

/-- The state with another stack pointer and stack. -/
def State.withStack (s : State) (sp : Fin 17) (stk : Vector Word 16) : State :=
  { s with sp := sp, stk := stk }

section WithStack

variable {s : State} {sp : Fin 17} {stk : Vector Word 16}

/-! ### The shared operations commute with another stack -/

theorem State.advance_withStack {t u : State} (h : u = t.withStack sp stk) :
    u.advance = t.advance.withStack sp stk := by
  rw [h]
  rfl

/-- R130: a skip neither reads nor writes the stack. -/
theorem State.skipIf_withStack (c : Bool) :
    (s.withStack sp stk).skipIf c = (s.skipIf c).withStack sp stk := by
  cases c <;> rfl

/-- R53: the range check reads I, and its fault entry keeps the stack. -/
theorem State.orOutOfBounds_withStack {len : Nat} {t u : State} (h : u = t.withStack sp stk) :
    (s.withStack sp stk).orOutOfBounds len u = (s.orOutOfBounds len t).withStack sp stk := by
  have hi : (s.withStack sp stk).i = s.i := rfl
  by_cases hle : s.i.toNat + len ≤ 4096
  · rw [State.orOutOfBounds_inside s t len hle, State.orOutOfBounds_inside _ u len (hi ▸ hle), h]
  · have hlt := Nat.lt_of_not_le hle
    rw [State.orOutOfBounds_outside s t len hlt, State.orOutOfBounds_outside _ u len (hi ▸ hlt)]
    rfl

/-- R190, R191: the key number check reads its byte, and its fault entry keeps the stack. -/
theorem State.orKeyOutOfRange_withStack {b : Byte} {t u : State} (h : u = t.withStack sp stk) :
    (s.withStack sp stk).orKeyOutOfRange b u = (s.orKeyOutOfRange b t).withStack sp stk := by
  by_cases hle : b.toNat ≤ 15
  · rw [State.orKeyOutOfRange_le s t b hle, State.orKeyOutOfRange_le _ u b hle, h]
  · have hlt := Nat.lt_of_not_le hle
    rw [State.orKeyOutOfRange_gt s t b hlt, State.orKeyOutOfRange_gt _ u b hlt]
    rfl

/-- R163 and U9: in every order the flag and data writes keep the stack, and do not read it if the flag
and the data are computed without it. -/
theorem State.flagAndData_withStack {o : VfOrder} {x : Nibble} {f d : State → Byte}
    (hf : ∀ t : State, f (t.withStack sp stk) = f t) (hd : ∀ t : State, d (t.withStack sp stk) = d t) :
    (s.withStack sp stk).flagAndData o x f d = (s.flagAndData o x f d).withStack sp stk := by
  have hset (t : State) (r : Nibble) (b : Byte) :
      (t.withStack sp stk).setV r b = (t.setV r b).withStack sp stk := rfl
  cases o <;> simp only [State.flagAndData, hf, hd, hset]

/-- R171: the sum reads I and VX, and IndexOverflow keeps the stack. -/
theorem State.addIndex_withStack (b : Byte) :
    (s.withStack sp stk).addIndex b = (s.addIndex b).withStack sp stk := by
  simp only [State.addIndex, apply_ite (State.withStack · sp stk)]
  rfl

/-- R121: the sprite is computed from memory, the framebuffer, I and the coordinates. -/
theorem State.drawSprite_withStack (x y n : Nibble) :
    (s.withStack sp stk).drawSprite x y n = s.drawSprite x y n := by
  have hsource : (s.withStack sp stk).coordinateSource = s.coordinateSource.withStack sp stk := by
    have hparams : (s.withStack sp stk).params = s.params := rfl
    unfold State.coordinateSource
    rw [hparams]
    cases s.params.vfOrder <;> rfl
  unfold State.drawSprite
  rw [hsource]
  rfl

/-! ### The execute phase -/

/-- R28: every instruction but 00EE and 2NNN does the same with another stack, and leaves it. -/
theorem exec_withStack {i : Instr} {t : State} (hret : i ≠ .ret) (hcall : ∀ a, i ≠ .call a)
    (h : exec i s = .next t) : exec i (s.withStack sp stk) = .next (t.withStack sp stk) := by
  cases i with
  | ret => exact absurd rfl hret
  | call a => exact absurd rfl (hcall a)
  | cls | jp | ldImm | addImm | ldReg | orReg | andReg | xorReg | ldI | jpV0 | rnd | ldVxDt | ldDtVx
  | ldStVx | ldF =>
    cases h
    rfl
  | seImm | sneImm | seReg | sneReg =>
    cases h
    exact congrArg Host.Outcome.next (State.skipIf_withStack _)
  | addReg | subReg | shr | subnReg | shl =>
    cases h
    exact congrArg Host.Outcome.next
      (State.advance_withStack (State.flagAndData_withStack (fun _ => rfl) (fun _ => rfl)))
  | drw x y n =>
    cases h
    simp only [exec, execDrw, State.drawSprite_withStack]
    exact congrArg Host.Outcome.next (State.orOutOfBounds_withStack rfl)
  | ldB | storeRegs | loadRegs =>
    cases h
    exact congrArg Host.Outcome.next (State.orOutOfBounds_withStack rfl)
  | skp | sknp =>
    cases h
    exact congrArg Host.Outcome.next (State.orKeyOutOfRange_withStack (State.skipIf_withStack _))
  | addI =>
    cases h
    exact congrArg Host.Outcome.next (State.addIndex_withStack _)
  | ldVxK x =>
    cases h
    have hkey : (s.withStack sp stk).foundKey = s.foundKey := rfl
    simp only [exec, execLdVxK, hkey]
    cases s.foundKey <;> rfl

/-- R28: every instruction but 00EE and 2NNN leaves the stack, being the same with the stack it has. -/
theorem exec_keepsStack {i : Instr} {t : State} (hret : i ≠ .ret) (hcall : ∀ a, i ≠ .call a)
    (h : exec i s = .next t) : KeepsStack s t := by
  have hown : exec i s = .next (t.withStack s.sp s.stk) := exec_withStack hret hcall h
  have ht : t = t.withStack s.sp s.stk := Host.Outcome.next.inj (h.symm.trans hown)
  rw [ht]
  exact ⟨rfl, rfl⟩

end WithStack

/-- Settles O25: the stack is not written by `exec_keepsStack`, and not read by `exec_withStack`. -/
theorem onlyCallAndReturnUseTheStack : Obligations.OnlyCallAndReturnUseTheStack := by
  intro i s t sp stk hret hcall h
  exact ⟨exec_keepsStack hret hcall h, exec_withStack hret hcall h⟩

end Sys2Proof.Machine
end

section
/-!
PROOFS. The cycle of a step (spec/40_cycle.md): the word the fetch phase reads, and the step of an
instruction that completes. `keyWait_eq_true_iff` says when the retry of R106 is taken, and
`step_completed` is the one equation of a completed step, from which its timers, its frame and its beep
are read off by the field lemmas of `State.timerPhase` and `State.returnOk`.
-/

namespace Sys2Proof.Machine

/-! ### Fetch -/

/-- R54: the byte at the lower address is the high one. -/
theorem wordOfBytes_toNat (hi lo : Byte) : (wordOfBytes hi lo).toNat = 256 * hi.toNat + lo.toNat := by
  have hlo : lo.toNat < 2 ^ 8 := lo.isLt
  rw [wordOfBytes, BitVec.toNat_append, ← Nat.shiftLeft_add_eq_or_of_lt hlo, Nat.shiftLeft_eq,
    Nat.mul_comm]

/-- R101, R102: with PC at most 4094 the fetched word is the two bytes at PC. -/
theorem State.fetchWord_inside (s : State) (h : s.pc.toNat ≤ 4094) :
    s.fetchWord = some (wordOfBytes (s.peek s.pc.toNat) (s.peek (s.pc.toNat + 1))) :=
  if_pos h

/-- Settles O6: the fetched word by `State.fetchWord_inside`, its value by `wordOfBytes_toNat`. -/
theorem fetchIsBigEndian : Obligations.FetchIsBigEndian := by
  intro s hpc
  exact ⟨_, s.fetchWord_inside hpc, wordOfBytes_toNat _ _⟩

/-! ### The key-wait retry -/

/-- R193: no key is found exactly when no key is pressed. -/
theorem State.foundKey_eq_none_iff (s : State) : s.foundKey = none ↔ s.key = 0 := by
  have hspec := lastPressed_spec s.key 16
  constructor
  · intro h
    have hlast : lastPressed s.key 16 = none := h
    rw [hlast] at hspec
    exact BitVec.eq_of_getLsbD_eq fun k hk => (hspec k hk).trans BitVec.getLsbD_zero.symm
  · intro h
    cases hlast : lastPressed s.key 16 with
    | none => exact hlast
    | some b =>
      rw [hlast] at hspec
      obtain ⟨k, -, -, hpressed, -⟩ := hspec
      simp [h] at hpressed

/-- R106: a step is a key-wait retry exactly when it is FX0A with no key pressed. -/
theorem keyWait_eq_true_iff (i : Instr) (s : State) :
    keyWait i s = true ↔ (∃ x, i = .ldVxK x) ∧ s.key = 0 := by
  rw [← s.foundKey_eq_none_iff]
  cases i <;> simp [keyWait]

/-- R106: the step of another instruction, or of FX0A with a key pressed, is no key-wait retry. -/
theorem keyWait_eq_false {i : Instr} {s : State} (h : (∀ x, i ≠ .ldVxK x) ∨ s.key ≠ 0) :
    keyWait i s = false := by
  rw [Bool.eq_false_iff, ne_eq, keyWait_eq_true_iff]
  rintro ⟨⟨x, hx⟩, hkey⟩
  exact h.elim (fun hi => hi x hx) (fun hk => hk hkey)

/-! ### The step of a decoded instruction -/

section Decoded

variable {i : Instr} {s u : State} {w : Word}

/-- R106 to R109: an instruction that left no fault and is no key-wait retry ends with the timer phase. -/
theorem endStep_completed (hfault : u.fault = none) (hwait : keyWait i s = false) :
    endStep i s u = u.timerPhase.returnOk u.beep := by
  obtain ⟨r, hr, -⟩ | ⟨-, htrue, -⟩ | ⟨-, -, h⟩ := endStep_cases i s u
  · exact absurd (hfault.symm.trans hr) nofun
  · exact absurd (hwait.symm.trans htrue) nofun
  · exact h

/-- R114: from a state that fetches the word of `i`, the step is `i` and then the end of the step. -/
theorem step_of_decoded (hs : s.fault = none) (hw : s.fetchWord = some w) (hd : decodeWord w = .ok i)
    (hu : exec i s = .next u) : step s = .next (endStep i s u) := by
  have hfetch : s.fetchDecode = .ok i := (s.fetchDecode_ok i).mpr ⟨hs, w, hw, hd⟩
  simp only [step, hfetch, hu]

/-- R107 to R109: a step that completes is its instruction, then the timer phase, and it returns the beep
of the sound timer the instruction left. -/
theorem step_completed (hs : s.fault = none) (hw : s.fetchWord = some w) (hd : decodeWord w = .ok i)
    (hu : exec i s = .next u) (hfault : u.fault = none) (hwait : (∀ x, i ≠ .ldVxK x) ∨ s.key ≠ 0) :
    step s = .next (u.timerPhase.returnOk u.beep) := by
  rw [step_of_decoded hs hw hd hu, endStep_completed hfault (keyWait_eq_false hwait)]

end Decoded

/-- Settles O14: the state a completed step ends in is that of `step_completed`, both timers by
`countDown_toNat`, and the rest is the frame of the timer phase. -/
theorem timersCountDownOncePerStep : Obligations.TimersCountDownOncePerStep := by
  intro s u w i hs hw hd hu hfault hwait
  refine ⟨_, step_completed hs hw hd hu hfault hwait, countDown_toNat u.dt, countDown_toNat u.st, ?_⟩
  simp [hfault, KeepsV, KeepsMemory, KeepsStack, KeepsScreen]

end Sys2Proof.Machine
end

section
/-!
PROOFS. The display instructions (spec/41_display.md). 00E0 is one framebuffer write and an advance of
PC, so its frame is read off by the field lemmas of `State.setFrame` and `State.advance`, and its pixels
by `Frame.pixel_clear`.
-/

namespace Sys2Proof.Machine

/-- R120: the execute phase of 00E0. -/
theorem exec_cls (s : State) : exec .cls s = .next (s.setFrame Frame.clear).advance := rfl

/-- R85, row 1 of the opcode map: no operand field, so the mask takes in the whole word. -/
theorem encodedAs_cls : EncodedAs .cls 0x00E0 0xFFFF := ⟨by decide, by decide⟩

/-- Settles O31: the pixels by `Frame.pixel_clear`, and the frame is that of `State.setFrame` and
`State.advance`. -/
theorem clsClearsTheScreen : Obligations.ClsClearsTheScreen := by
  refine ⟨encodedAs_cls, fun s => ⟨_, exec_cls s, ?pixels, ?frame⟩⟩
  case pixels => exact fun y x => Frame.pixel_clear y x
  case frame => simp [KeepsV, KeepsMemory, KeepsStack, KeepsTimers, KeepsLatches]

end Sys2Proof.Machine
end

section
/-!
PROOFS. The words of the address layout (1NNN, BNNN) and of the register and byte layout (3XNN, 4XNN),
spec/30_encoding.md R71 to R75: what their fields are, and that each decodes to its instruction. The masked
words are those of `mask_address` and `mask_regByte`.
-/

namespace Sys2Proof.Machine

open Sys2Proof.Laws

/-! ### The fields of the two layouts -/

theorem fieldF_address (f : Nibble) (d : Addr12) : fieldF (f ++ d) = f :=
  BitVec.extractLsb'_append_eq_left

theorem fieldNNN_address (f : Nibble) (d : Addr12) : fieldNNN (f ++ d) = d :=
  BitVec.extractLsb'_append_eq_right

theorem fieldF_regByte (f x : Nibble) (nn : Byte) : fieldF (f ++ x ++ nn) = f :=
  (BitVec.extractLsb'_append_eq_of_le (by decide)).trans BitVec.extractLsb'_append_eq_left

theorem fieldX_regByte (f x : Nibble) (nn : Byte) : fieldX (f ++ x ++ nn) = x :=
  (BitVec.extractLsb'_append_eq_of_le (by decide)).trans BitVec.extractLsb'_append_eq_right

theorem fieldNN_regByte (f x : Nibble) (nn : Byte) : fieldNN (f ++ x ++ nn) = nn :=
  BitVec.extractLsb'_append_eq_right

/-! ### The families of the decoder (R75) -/

section Families

variable {w : Word}

theorem decodeWord_jp (h : fieldF w = 0x1#4) : decodeWord w = .ok (.jp (fieldNNN w)) := by
  simp [decodeWord, decodeWord?, h]

theorem decodeWord_jpV0 (h : fieldF w = 0xB#4) : decodeWord w = .ok (.jpV0 (fieldNNN w)) := by
  simp [decodeWord, decodeWord?, h]

theorem decodeWord_seImm (h : fieldF w = 0x3#4) :
    decodeWord w = .ok (.seImm (fieldX w) (fieldNN w)) := by
  simp [decodeWord, decodeWord?, h]

theorem decodeWord_sneImm (h : fieldF w = 0x4#4) :
    decodeWord w = .ok (.sneImm (fieldX w) (fieldNN w)) := by
  simp [decodeWord, decodeWord?, h]

end Families

/-! ### The rows of the opcode map (R85) -/

theorem encodedAs_jp (nnn : Addr12) : EncodedAs (.jp nnn) 0x1000 0xF000 := by
  refine ⟨mask_address .., ?_⟩
  rw [encode, decodeWord_jp (fieldF_address ..), fieldNNN_address]

theorem encodedAs_jpV0 (nnn : Addr12) : EncodedAs (.jpV0 nnn) 0xB000 0xF000 := by
  refine ⟨mask_address .., ?_⟩
  rw [encode, decodeWord_jpV0 (fieldF_address ..), fieldNNN_address]

theorem encodedAs_seImm (x : Nibble) (nn : Byte) : EncodedAs (.seImm x nn) 0x3000 0xF000 := by
  refine ⟨mask_regByte .., ?_⟩
  rw [encode, decodeWord_seImm (fieldF_regByte ..), fieldX_regByte, fieldNN_regByte]

theorem encodedAs_sneImm (x : Nibble) (nn : Byte) : EncodedAs (.sneImm x nn) 0x4000 0xF000 := by
  refine ⟨mask_regByte .., ?_⟩
  rw [encode, decodeWord_sneImm (fieldF_regByte ..), fieldX_regByte, fieldNN_regByte]

end Sys2Proof.Machine
end

section
/-!
PROOFS. Jumps and skips (spec/42_control_flow.md). Each is one write of PC, whose frame is
`State.keepsAllButPc_setPc`; a skip is one too by `State.skipIf_eq`. A target above 4094 is found out by the
next fetch, `State.fetchWord_outside`.
-/

namespace Sys2Proof.Machine

/-- R101: with PC above 4094 no word is fetched. -/
theorem State.fetchWord_outside (s : State) (h : 4094 < s.pc.toNat) : s.fetchWord = none :=
  if_neg (Nat.not_le.mpr h)

/-- A write of PC leaves all else. -/
theorem State.keepsAllButPc_setPc (s : State) (w : Word) : KeepsAllButPc s (s.setPc w) := by
  simp [KeepsAllButPc, KeepsOutsideV, KeepsV, KeepsMemory, KeepsStack, KeepsTimers, KeepsScreen,
    KeepsLatches]

/-! ### Jumps -/

/-- R132: the execute phase of 1NNN. -/
theorem exec_jp (nnn : Addr12) (s : State) : exec (.jp nnn) s = .next (s.setPc (zextAddr nnn)) := rfl

/-- R140: the execute phase of BNNN. -/
theorem exec_jpV0 (nnn : Addr12) (s : State) :
    exec (.jpV0 nnn) s = .next (s.setPc (s.offsetTarget nnn)) := rfl

/-- R73: zero extension keeps the address. -/
theorem zextAddr_toNat (nnn : Addr12) : (zextAddr nnn).toNat = nnn.toNat :=
  BitVec.toNat_setWidth_of_le (by decide)

/-- R73: zero extension keeps the byte. -/
theorem zextByte_toNat (b : Byte) : (zextByte b).toNat = b.toNat :=
  BitVec.toNat_setWidth_of_le (by decide)

/-- R140: the target of BNNN is the exact sum, at most 0xFFF + 0xFF. -/
theorem State.offsetTarget_toNat (s : State) (nnn : Addr12) :
    (s.offsetTarget nnn).toNat = nnn.toNat + (s.vreg 0).toNat := by
  have hnnn : nnn.toNat < 2 ^ 12 := nnn.isLt
  have hv0 : (s.vreg 0).toNat < 2 ^ 8 := (s.vreg 0).isLt
  have hsum : (zextAddr nnn).toNat + (zextByte (s.vreg 0)).toNat < 2 ^ 16 := by
    rw [zextAddr_toNat, zextByte_toNat]
    omega
  rw [State.offsetTarget, BitVec.toNat_add_of_lt hsum, zextAddr_toNat, zextByte_toNat]

/-- What a jump does to the state: PC takes the target, all else is kept, and a target above 4094 fetches
no word. -/
theorem State.setPc_jump (s : State) {w : Word} {n : Nat} (hw : w.toNat = n) :
    (s.setPc w).pc.toNat = n ∧ KeepsAllButPc s (s.setPc w) ∧
      (4094 < n → (s.setPc w).fetchWord = none) := by
  subst hw
  exact ⟨rfl, s.keepsAllButPc_setPc w, (s.setPc w).fetchWord_outside⟩

/-- Settles O34: a jump (`State.setPc_jump`) to the zero-extended address. -/
theorem jpJumps : Obligations.JpJumps := by
  intro nnn s
  exact ⟨encodedAs_jp nnn, _, exec_jp nnn s, s.setPc_jump (zextAddr_toNat nnn)⟩

/-- Settles O35: a jump (`State.setPc_jump`) to the sum, which `State.offsetTarget_toNat` says is exact. -/
theorem jpV0JumpsWithOffset : Obligations.JpV0JumpsWithOffset := by
  intro nnn s
  exact ⟨encodedAs_jpV0 nnn, _, exec_jpV0 nnn s, s.setPc_jump (s.offsetTarget_toNat nnn)⟩

/-! ### Skips -/

/-- R134: the execute phase of 3XNN. -/
theorem exec_seImm (x : Nibble) (nn : Byte) (s : State) :
    exec (.seImm x nn) s = .next (s.skipIf (s.vreg x == nn)) := rfl

/-- R135: the execute phase of 4XNN. -/
theorem exec_sneImm (x : Nibble) (nn : Byte) (s : State) :
    exec (.sneImm x nn) s = .next (s.skipIf (s.vreg x != nn)) := rfl

/-- R130: a skip under a condition `p` adds 2 to the advanced PC exactly if `p` holds, and leaves all
else. -/
theorem State.skipIf_skip (s : State) {c : Bool} {p : Prop} [Decidable p] (h : c = true ↔ p) :
    (s.skipIf c).pc = (if p then s.pc + 2 + 2 else s.pc + 2) ∧ KeepsAllButPc s (s.skipIf c) := by
  have hfour : s.pc + 2 + 2 = s.pc + 4 := BitVec.add_assoc s.pc 2 2
  rw [State.skipIf_eq, hfour]
  exact ⟨if_congr h rfl rfl, s.keepsAllButPc_setPc _⟩

/-- Settles O40: both skips by `State.skipIf_skip`, under equality and under its negation. -/
theorem immediateSkips : Obligations.ImmediateSkips := by
  intro x nn s
  refine ⟨encodedAs_seImm x nn, encodedAs_sneImm x nn, ?skipIfEqual, ?skipIfDifferent⟩
  case skipIfEqual => exact ⟨_, exec_seImm x nn s, s.skipIf_skip beq_iff_eq⟩
  case skipIfDifferent => exact ⟨_, exec_sneImm x nn s, s.skipIf_skip bne_iff_ne⟩

end Sys2Proof.Machine
end

section
/-!
PROOFS. The words of 6XNN, 7XNN and family 0x8 (spec/30_encoding.md R71 to R78): the fields of the
register and register layout, and that each word decodes to its instruction. The masked words are those of
`mask_regByte` and `mask_regReg`.
-/

namespace Sys2Proof.Machine

open Sys2Proof.Laws

/-! ### The fields of the register and register layout -/

theorem fieldF_regReg (f x y d : Nibble) : fieldF (f ++ x ++ y ++ d) = f :=
  (BitVec.extractLsb'_append_eq_of_le (by decide)).trans
    ((BitVec.extractLsb'_append_eq_of_le (by decide)).trans BitVec.extractLsb'_append_eq_left)

theorem fieldX_regReg (f x y d : Nibble) : fieldX (f ++ x ++ y ++ d) = x :=
  (BitVec.extractLsb'_append_eq_of_le (by decide)).trans
    ((BitVec.extractLsb'_append_eq_of_le (by decide)).trans BitVec.extractLsb'_append_eq_right)

theorem fieldY_regReg (f x y d : Nibble) : fieldY (f ++ x ++ y ++ d) = y :=
  (BitVec.extractLsb'_append_eq_of_le (by decide)).trans BitVec.extractLsb'_append_eq_right

theorem fieldN_regReg (f x y d : Nibble) : fieldN (f ++ x ++ y ++ d) = d :=
  BitVec.extractLsb'_append_eq_right

/-! ### The families of the decoder (R75) -/

section Families

variable {w : Word}

theorem decodeWord_ldImm (h : fieldF w = 0x6#4) :
    decodeWord w = .ok (.ldImm (fieldX w) (fieldNN w)) := by
  simp [decodeWord, decodeWord?, h]

theorem decodeWord_addImm (h : fieldF w = 0x7#4) :
    decodeWord w = .ok (.addImm (fieldX w) (fieldNN w)) := by
  simp [decodeWord, decodeWord?, h]

/-- R78: in family 0x8 the decoder answers what the dispatch on N does. -/
theorem decodeWord_family8 {i : Instr} (h : fieldF w = 0x8#4) (hi : decodeFamily8 w = some i) :
    decodeWord w = .ok i := by
  simp [decodeWord, decodeWord?, h, hi]

theorem decodeFamily8_ldReg (h : fieldN w = 0x0#4) :
    decodeFamily8 w = some (.ldReg (fieldX w) (fieldY w)) := by
  simp [decodeFamily8, h]

theorem decodeFamily8_orReg (h : fieldN w = 0x1#4) :
    decodeFamily8 w = some (.orReg (fieldX w) (fieldY w)) := by
  simp [decodeFamily8, h]

theorem decodeFamily8_andReg (h : fieldN w = 0x2#4) :
    decodeFamily8 w = some (.andReg (fieldX w) (fieldY w)) := by
  simp [decodeFamily8, h]

theorem decodeFamily8_xorReg (h : fieldN w = 0x3#4) :
    decodeFamily8 w = some (.xorReg (fieldX w) (fieldY w)) := by
  simp [decodeFamily8, h]

end Families

/-! ### The rows of the opcode map (R85) -/

theorem encodedAs_ldImm (x : Nibble) (nn : Byte) : EncodedAs (.ldImm x nn) 0x6000 0xF000 := by
  refine ⟨mask_regByte .., ?_⟩
  rw [encode, decodeWord_ldImm (fieldF_regByte ..), fieldX_regByte, fieldNN_regByte]

theorem encodedAs_addImm (x : Nibble) (nn : Byte) : EncodedAs (.addImm x nn) 0x7000 0xF000 := by
  refine ⟨mask_regByte .., ?_⟩
  rw [encode, decodeWord_addImm (fieldF_regByte ..), fieldX_regByte, fieldNN_regByte]

/-- R78, R85: a row of family 0x8 is a constructor of two registers whose words end in `d`, and to which
the dispatch on N = `d` leads. -/
theorem encodedAs_family8 {c : Nibble → Nibble → Instr} {d : Nibble}
    (henc : ∀ x y, encode (c x y) = 0x8#4 ++ x ++ y ++ d)
    (hdec : ∀ w, fieldN w = d → decodeFamily8 w = some (c (fieldX w) (fieldY w))) (x y : Nibble) :
    EncodedAs (c x y) (0x8#4 ++ 0#4 ++ 0#4 ++ d) 0xF00F := by
  rw [EncodedAs, henc]
  refine ⟨mask_regReg .., ?_⟩
  rw [decodeWord_family8 (fieldF_regReg ..) (hdec _ (fieldN_regReg ..)), fieldX_regReg, fieldY_regReg]

theorem encodedAs_ldReg (x y : Nibble) : EncodedAs (.ldReg x y) 0x8000 0xF00F :=
  encodedAs_family8 (fun _ _ => rfl) (fun _ => decodeFamily8_ldReg) x y

theorem encodedAs_orReg (x y : Nibble) : EncodedAs (.orReg x y) 0x8001 0xF00F :=
  encodedAs_family8 (fun _ _ => rfl) (fun _ => decodeFamily8_orReg) x y

theorem encodedAs_andReg (x y : Nibble) : EncodedAs (.andReg x y) 0x8002 0xF00F :=
  encodedAs_family8 (fun _ _ => rfl) (fun _ => decodeFamily8_andReg) x y

theorem encodedAs_xorReg (x y : Nibble) : EncodedAs (.xorReg x y) 0x8003 0xF00F :=
  encodedAs_family8 (fun _ _ => rfl) (fun _ => decodeFamily8_xorReg) x y

end Sys2Proof.Machine
end

section
/-!
PROOFS. The register and ALU instructions without a flag (spec/43_register_alu.md): 6XNN, 7XNN and 8XY0 to
8XY3. Each is one write of VX and an advance of PC: `exec_ldImm` and its siblings say which byte is
written, and `State.setV_advance_frame` says once what the write and the advance leave unchanged.
-/

namespace Sys2Proof.Machine

/-! ### One register write and an advance -/

section Write

variable (s : State) (x : Nibble) (b : Byte)

theorem State.vreg_setV_advance_same : (s.setV x b).advance.vreg x = b := by
  rw [State.advance_vreg, State.vreg_setV, if_pos rfl]

/-- A write of VX and an advance move PC to the next word and leave every other register, VF included,
and all else. -/
theorem State.setV_advance_frame :
    (s.setV x b).advance.pc = s.pc + 2 ∧ KeepsVBut x s (s.setV x b).advance ∧
      KeepsOutsideV s (s.setV x b).advance := by
  refine ⟨rfl, ?otherRegisters, ?outside⟩
  case otherRegisters =>
    intro r hr
    rw [State.advance_vreg, State.vreg_setV, if_neg hr]
  case outside =>
    simp [KeepsOutsideV, KeepsMemory, KeepsStack, KeepsTimers, KeepsScreen, KeepsLatches]

end Write

/-! ### The execute phase -/

section Exec

variable (x y : Nibble) (nn : Byte) (s : State)

/-- R150: the execute phase of 6XNN. -/
theorem exec_ldImm : exec (.ldImm x nn) s = .next (s.setV x nn).advance := rfl

/-- R151: the execute phase of 7XNN. -/
theorem exec_addImm : exec (.addImm x nn) s = .next (s.setV x (s.vreg x + nn)).advance := rfl

/-- R152: the execute phase of 8XY0. -/
theorem exec_ldReg : exec (.ldReg x y) s = .next (s.setV x (s.vreg y)).advance := rfl

/-- R153: the execute phase of 8XY1. -/
theorem exec_orReg : exec (.orReg x y) s = .next (s.setV x (s.vreg x ||| s.vreg y)).advance := rfl

/-- R154: the execute phase of 8XY2. -/
theorem exec_andReg : exec (.andReg x y) s = .next (s.setV x (s.vreg x &&& s.vreg y)).advance := rfl

/-- R155: the execute phase of 8XY3. -/
theorem exec_xorReg : exec (.xorReg x y) s = .next (s.setV x (s.vreg x ^^^ s.vreg y)).advance := rfl

end Exec

/-! ### The obligations -/

/-- Settles O42: both are a register write and an advance, of NN and of the byte VY holds. -/
theorem registerLoads : Obligations.RegisterLoads := by
  intro x y nn s
  refine ⟨encodedAs_ldImm x nn, encodedAs_ldReg x y, ?immediate, ?register⟩
  case immediate =>
    exact ⟨_, exec_ldImm x nn s, s.vreg_setV_advance_same x _, s.setV_advance_frame x _⟩
  case register =>
    exact ⟨_, exec_ldReg x y s, s.vreg_setV_advance_same x _, s.setV_advance_frame x _⟩

/-- Settles O43: each is a register write and an advance, and each bit of the byte written is that of the
library's lemma on the bits of the operation. -/
theorem logicInstructions : Obligations.LogicInstructions := by
  intro x y s
  refine ⟨encodedAs_orReg x y, encodedAs_andReg x y, encodedAs_xorReg x y, ?or, ?and, ?xor⟩
  case or =>
    refine ⟨_, exec_orReg x y s, fun k _ => ?_, s.setV_advance_frame x _⟩
    rw [State.vreg_setV_advance_same, BitVec.getLsbD_or]
  case and =>
    refine ⟨_, exec_andReg x y s, fun k _ => ?_, s.setV_advance_frame x _⟩
    rw [State.vreg_setV_advance_same, BitVec.getLsbD_and]
  case xor =>
    refine ⟨_, exec_xorReg x y s, fun k _ => ?_, s.setV_advance_frame x _⟩
    rw [State.vreg_setV_advance_same, BitVec.getLsbD_xor]

/-- Settles O44: a register write and an advance, and the sum of two bytes is the one modulo 256 by
`BitVec.toNat_add`. -/
theorem addImmediateWrapsWithoutFlag : Obligations.AddImmediateWrapsWithoutFlag := by
  intro x nn s
  refine ⟨encodedAs_addImm x nn, _, exec_addImm x nn s, ?sum, s.setV_advance_frame x _⟩
  case sum => rw [State.vreg_setV_advance_same, BitVec.toNat_add]

end Sys2Proof.Machine
end

section
/-!
PROOFS. The load of the index register (spec/44_index_memory.md). ANNN has the address layout; it is one
write of I and an advance of PC, whose frame `State.setI_advance_frame` says once.
-/

namespace Sys2Proof.Machine

open Sys2Proof.Laws

theorem decodeWord_ldI {w : Word} (h : fieldF w = 0xA#4) : decodeWord w = .ok (.ldI (fieldNNN w)) := by
  simp [decodeWord, decodeWord?, h]

theorem encodedAs_ldI (nnn : Addr12) : EncodedAs (.ldI nnn) 0xA000 0xF000 := by
  refine ⟨mask_address .., ?_⟩
  rw [encode, decodeWord_ldI (fieldF_address ..), fieldNNN_address]

/-- R170: the execute phase of ANNN. -/
theorem exec_ldI (nnn : Addr12) (s : State) :
    exec (.ldI nnn) s = .next (s.setI (zextAddr nnn)).advance := rfl

/-- A write of I and an advance move PC to the next word and leave all but I and PC. -/
theorem State.setI_advance_frame (s : State) (w : Word) :
    (s.setI w).advance.pc = s.pc + 2 ∧ KeepsV s (s.setI w).advance ∧ KeepsMemory s (s.setI w).advance ∧
      KeepsStack s (s.setI w).advance ∧ KeepsTimers s (s.setI w).advance ∧
      KeepsScreen s (s.setI w).advance ∧ KeepsLatches s (s.setI w).advance := by
  simp [KeepsV, KeepsMemory, KeepsStack, KeepsTimers, KeepsScreen, KeepsLatches]

/-- Settles O49: a write of I and an advance, and by `zextAddr_toNat` the word written is the address. -/
theorem ldIndexLoadsAddress : Obligations.LdIndexLoadsAddress := by
  intro nnn s
  exact ⟨encodedAs_ldI nnn, _, exec_ldI nnn s, zextAddr_toNat nnn, s.setI_advance_frame (zextAddr nnn)⟩

end Sys2Proof.Machine
end

section
/-!
PROOFS. The timer instructions (spec/45_input_timers.md): FX07, FX15 and FX18. Each is one write, of VX, DT
or ST, and an advance of PC, so the frames are those of `State.setV_advance_frame`,
`State.setDt_advance_frame` and `State.setSt_advance_frame`; `endStep_dt` and `endStep_st` say what the end
of the same step leaves in the timers.
-/

namespace Sys2Proof.Machine

open Sys2Proof.Laws

/-! ### The words of family 0xF (spec/30_encoding.md R80, R85) -/

section Words

variable {w : Word}

/-- R80: in family 0xF the decoder answers what the dispatch on NN does. -/
theorem decodeWord_familyF {i : Instr} (h : fieldF w = 0xF#4) (hi : decodeFamilyF w = some i) :
    decodeWord w = .ok i := by
  simp [decodeWord, decodeWord?, h, hi]

theorem decodeFamilyF_ldVxDt (h : fieldNN w = 0x07#8) :
    decodeFamilyF w = some (.ldVxDt (fieldX w)) := by
  simp [decodeFamilyF, h]

theorem decodeFamilyF_ldDtVx (h : fieldNN w = 0x15#8) :
    decodeFamilyF w = some (.ldDtVx (fieldX w)) := by
  simp [decodeFamilyF, h]

theorem decodeFamilyF_ldStVx (h : fieldNN w = 0x18#8) :
    decodeFamilyF w = some (.ldStVx (fieldX w)) := by
  simp [decodeFamilyF, h]

/-- R80, R85: a row of family 0xF is a constructor of one register whose words end in `d`, and to which
the dispatch on NN = `d` leads. -/
theorem encodedAs_familyF {c : Nibble → Instr} {d : Byte} (henc : ∀ x, encode (c x) = 0xF#4 ++ x ++ d)
    (hdec : ∀ w, fieldNN w = d → decodeFamilyF w = some (c (fieldX w))) (x : Nibble) :
    EncodedAs (c x) (0xF#4 ++ 0#4 ++ d) 0xF0FF := by
  rw [EncodedAs, henc]
  refine ⟨mask_reg .., ?_⟩
  rw [decodeWord_familyF (fieldF_regByte ..) (hdec _ (fieldNN_regByte ..)), fieldX_regByte]

theorem encodedAs_ldVxDt (x : Nibble) : EncodedAs (.ldVxDt x) 0xF007 0xF0FF :=
  encodedAs_familyF (fun _ => rfl) (fun _ => decodeFamilyF_ldVxDt) x

theorem encodedAs_ldDtVx (x : Nibble) : EncodedAs (.ldDtVx x) 0xF015 0xF0FF :=
  encodedAs_familyF (fun _ => rfl) (fun _ => decodeFamilyF_ldDtVx) x

theorem encodedAs_ldStVx (x : Nibble) : EncodedAs (.ldStVx x) 0xF018 0xF0FF :=
  encodedAs_familyF (fun _ => rfl) (fun _ => decodeFamilyF_ldStVx) x

end Words

/-! ### The execute phase -/

section Exec

variable (x : Nibble) (s : State)

/-- R192: the execute phase of FX07. -/
theorem exec_ldVxDt : exec (.ldVxDt x) s = .next (s.setV x s.dt).advance := rfl

/-- R194: the execute phase of FX15. -/
theorem exec_ldDtVx : exec (.ldDtVx x) s = .next (s.setDt (s.vreg x)).advance := rfl

/-- R195: the execute phase of FX18. -/
theorem exec_ldStVx : exec (.ldStVx x) s = .next (s.setSt (s.vreg x)).advance := rfl

end Exec

/-! ### One timer write and an advance -/

section Write

variable (s : State) (b : Byte)

/-- A write of DT and an advance move PC to the next word and leave all but DT and PC. -/
theorem State.setDt_advance_frame :
    (s.setDt b).advance.st = s.st ∧ (s.setDt b).advance.pc = s.pc + 2 ∧ KeepsV s (s.setDt b).advance ∧
      (s.setDt b).advance.i = s.i ∧ KeepsMemory s (s.setDt b).advance ∧
      KeepsStack s (s.setDt b).advance ∧ KeepsScreen s (s.setDt b).advance ∧
      KeepsLatches s (s.setDt b).advance := by
  simp [KeepsV, KeepsMemory, KeepsStack, KeepsScreen, KeepsLatches]

/-- A write of ST and an advance move PC to the next word and leave all but ST and PC. -/
theorem State.setSt_advance_frame :
    (s.setSt b).advance.dt = s.dt ∧ (s.setSt b).advance.pc = s.pc + 2 ∧ KeepsV s (s.setSt b).advance ∧
      (s.setSt b).advance.i = s.i ∧ KeepsMemory s (s.setSt b).advance ∧
      KeepsStack s (s.setSt b).advance ∧ KeepsScreen s (s.setSt b).advance ∧
      KeepsLatches s (s.setSt b).advance := by
  simp [KeepsV, KeepsMemory, KeepsStack, KeepsScreen, KeepsLatches]

end Write

/-! ### The end of the same step -/

section EndOfStep

variable {i : Instr} {s u : State}

/-- R107: the end of a completed step counts down once the delay timer the instruction left. -/
theorem endStep_dt (hfault : u.fault = none) (hwait : keyWait i s = false) :
    (endStep i s u).dt.toNat = u.dt.toNat - 1 := by
  rw [endStep_completed hfault hwait]
  exact countDown_toNat u.dt

/-- R107: the end of a completed step counts down once the sound timer the instruction left. -/
theorem endStep_st (hfault : u.fault = none) (hwait : keyWait i s = false) :
    (endStep i s u).st.toNat = u.st.toNat - 1 := by
  rw [endStep_completed hfault hwait]
  exact countDown_toNat u.st

end EndOfStep

/-- Settles O59: each is a write and an advance, which keep the fault latch clear, so by `endStep_dt` and
`endStep_st` the end of the step counts down the timer they left. -/
theorem timerInstructions : Obligations.TimerInstructions := by
  intro x s
  refine ⟨encodedAs_ldVxDt x, encodedAs_ldDtVx x, encodedAs_ldStVx x, ?readDt, ?writeDt, ?writeSt⟩
  case readDt =>
    obtain ⟨hpc, hv, houtside⟩ := s.setV_advance_frame x s.dt
    exact ⟨_, exec_ldVxDt x s, s.vreg_setV_advance_same x _, hpc, hv, houtside,
      fun hs => endStep_dt hs rfl⟩
  case writeDt =>
    obtain ⟨hst, hpc, hv, hi, hmem, hstack, hscreen, hlatches⟩ := s.setDt_advance_frame (s.vreg x)
    exact ⟨_, exec_ldDtVx x s, rfl, hst, hpc, hv, hi, hmem, hstack, hscreen, hlatches,
      fun hs => endStep_dt hs rfl⟩
  case writeSt =>
    obtain ⟨hdt, hpc, hv, hi, hmem, hstack, hscreen, hlatches⟩ := s.setSt_advance_frame (s.vreg x)
    exact ⟨_, exec_ldStVx x s, rfl, hdt, hpc, hv, hi, hmem, hstack, hscreen, hlatches,
      fun hs => endStep_st hs rfl⟩

end Sys2Proof.Machine
end

section
/-!
PROOFS. The words of the remaining rows of the opcode map (spec/30_encoding.md R71 to R80): 00EE, 2NNN,
5XY0, 9XY0, CXNN, DXYN, the flag writers of family 0x8, family 0xE and the rest of family 0xF.
-/

namespace Sys2Proof.Machine

open Sys2Proof.Laws

/-! ### The families of the decoder (R75) -/

section Families

variable {w : Word}

theorem decodeWord_call (h : fieldF w = 0x2#4) : decodeWord w = .ok (.call (fieldNNN w)) := by
  simp [decodeWord, decodeWord?, h]

theorem decodeWord_seReg (h : fieldF w = 0x5#4) (hn : fieldN w = 0x0#4) :
    decodeWord w = .ok (.seReg (fieldX w) (fieldY w)) := by
  simp [decodeWord, decodeWord?, decodeIfNZero, h, hn]

theorem decodeWord_sneReg (h : fieldF w = 0x9#4) (hn : fieldN w = 0x0#4) :
    decodeWord w = .ok (.sneReg (fieldX w) (fieldY w)) := by
  simp [decodeWord, decodeWord?, decodeIfNZero, h, hn]

theorem decodeWord_rnd (h : fieldF w = 0xC#4) :
    decodeWord w = .ok (.rnd (fieldX w) (fieldNN w)) := by
  simp [decodeWord, decodeWord?, h]

theorem decodeWord_drw (h : fieldF w = 0xD#4) :
    decodeWord w = .ok (.drw (fieldX w) (fieldY w) (fieldN w)) := by
  simp [decodeWord, decodeWord?, h]

/-- R79: in family 0xE the decoder answers what the dispatch on NN does. -/
theorem decodeWord_familyE {i : Instr} (h : fieldF w = 0xE#4) (hi : decodeFamilyE w = some i) :
    decodeWord w = .ok i := by
  simp [decodeWord, decodeWord?, h, hi]

end Families

/-! ### The rows of the opcode map (R85) -/

theorem encodedAs_ret : EncodedAs .ret 0x00EE 0xFFFF := ⟨by decide, by decide⟩

theorem encodedAs_call (nnn : Addr12) : EncodedAs (.call nnn) 0x2000 0xF000 := by
  refine ⟨mask_address .., ?_⟩
  rw [encode, decodeWord_call (fieldF_address ..), fieldNNN_address]

theorem encodedAs_seReg (x y : Nibble) : EncodedAs (.seReg x y) 0x5000 0xF00F := by
  refine ⟨mask_regReg .., ?_⟩
  rw [encode, decodeWord_seReg (fieldF_regReg ..) (fieldN_regReg ..), fieldX_regReg, fieldY_regReg]

theorem encodedAs_sneReg (x y : Nibble) : EncodedAs (.sneReg x y) 0x9000 0xF00F := by
  refine ⟨mask_regReg .., ?_⟩
  rw [encode, decodeWord_sneReg (fieldF_regReg ..) (fieldN_regReg ..), fieldX_regReg, fieldY_regReg]

theorem encodedAs_rnd (x : Nibble) (nn : Byte) : EncodedAs (.rnd x nn) 0xC000 0xF000 := by
  refine ⟨mask_regByte .., ?_⟩
  rw [encode, decodeWord_rnd (fieldF_regByte ..), fieldX_regByte, fieldNN_regByte]

theorem encodedAs_drw (x y n : Nibble) : EncodedAs (.drw x y n) 0xD000 0xF000 := by
  refine ⟨mask_regRegNibble .., ?_⟩
  rw [encode, decodeWord_drw (fieldF_regReg ..), fieldX_regReg, fieldY_regReg, fieldN_regReg]

theorem encodedAs_addReg (x y : Nibble) : EncodedAs (.addReg x y) 0x8004 0xF00F :=
  encodedAs_family8 (d := 0x4) (fun _ _ => rfl) (fun _ h => by simp [decodeFamily8, h]) x y

theorem encodedAs_subReg (x y : Nibble) : EncodedAs (.subReg x y) 0x8005 0xF00F :=
  encodedAs_family8 (d := 0x5) (fun _ _ => rfl) (fun _ h => by simp [decodeFamily8, h]) x y

theorem encodedAs_shr (x y : Nibble) : EncodedAs (.shr x y) 0x8006 0xF00F :=
  encodedAs_family8 (d := 0x6) (fun _ _ => rfl) (fun _ h => by simp [decodeFamily8, h]) x y

theorem encodedAs_subnReg (x y : Nibble) : EncodedAs (.subnReg x y) 0x8007 0xF00F :=
  encodedAs_family8 (d := 0x7) (fun _ _ => rfl) (fun _ h => by simp [decodeFamily8, h]) x y

theorem encodedAs_shl (x y : Nibble) : EncodedAs (.shl x y) 0x800E 0xF00F :=
  encodedAs_family8 (d := 0xE) (fun _ _ => rfl) (fun _ h => by simp [decodeFamily8, h]) x y

/-- R79, R85: a row of family 0xE is a constructor of one register whose words end in `d`, and to which
the dispatch on NN = `d` leads. -/
theorem encodedAs_familyE {c : Nibble → Instr} {d : Byte} (henc : ∀ x, encode (c x) = 0xE#4 ++ x ++ d)
    (hdec : ∀ w, fieldNN w = d → decodeFamilyE w = some (c (fieldX w))) (x : Nibble) :
    EncodedAs (c x) (0xE#4 ++ 0#4 ++ d) 0xF0FF := by
  rw [EncodedAs, henc]
  refine ⟨mask_reg .., ?_⟩
  rw [decodeWord_familyE (fieldF_regByte ..) (hdec _ (fieldNN_regByte ..)), fieldX_regByte]

theorem encodedAs_skp (x : Nibble) : EncodedAs (.skp x) 0xE09E 0xF0FF :=
  encodedAs_familyE (d := 0x9E) (fun _ => rfl) (fun _ h => by simp [decodeFamilyE, h]) x

theorem encodedAs_sknp (x : Nibble) : EncodedAs (.sknp x) 0xE0A1 0xF0FF :=
  encodedAs_familyE (d := 0xA1) (fun _ => rfl) (fun _ h => by simp [decodeFamilyE, h]) x

theorem encodedAs_ldVxK (x : Nibble) : EncodedAs (.ldVxK x) 0xF00A 0xF0FF :=
  encodedAs_familyF (d := 0x0A) (fun _ => rfl) (fun _ h => by simp [decodeFamilyF, h]) x

theorem encodedAs_addI (x : Nibble) : EncodedAs (.addI x) 0xF01E 0xF0FF :=
  encodedAs_familyF (d := 0x1E) (fun _ => rfl) (fun _ h => by simp [decodeFamilyF, h]) x

theorem encodedAs_ldF (x : Nibble) : EncodedAs (.ldF x) 0xF029 0xF0FF :=
  encodedAs_familyF (d := 0x29) (fun _ => rfl) (fun _ h => by simp [decodeFamilyF, h]) x

theorem encodedAs_ldB (x : Nibble) : EncodedAs (.ldB x) 0xF033 0xF0FF :=
  encodedAs_familyF (d := 0x33) (fun _ => rfl) (fun _ h => by simp [decodeFamilyF, h]) x

theorem encodedAs_storeRegs (x : Nibble) : EncodedAs (.storeRegs x) 0xF055 0xF0FF :=
  encodedAs_familyF (d := 0x55) (fun _ => rfl) (fun _ h => by simp [decodeFamilyF, h]) x

theorem encodedAs_loadRegs (x : Nibble) : EncodedAs (.loadRegs x) 0xF065 0xF0FF :=
  encodedAs_familyF (d := 0x65) (fun _ => rfl) (fun _ h => by simp [decodeFamilyF, h]) x

end Sys2Proof.Machine
end

section
/-!
PROOFS. The decoder and the encoder are inverse to each other (spec/30_encoding.md R70 to R87). Both
directions are statements about words, `decodeWord_encode` and `encode_of_decodeWord`; the opcode map then
agrees with the decoder because every word that hits a row decodes (`exists_decodeWord_of_hit`, from the
list of the invalid words) and no word hits two rows (`opcodeMap_disjoint`).
-/

namespace Sys2Proof.Machine

open Sys2Proof.Laws

/-! ### Decoding what was encoded -/

/-- R72, R84: the word of an instruction decodes to it. -/
theorem decodeWord_encode : ∀ i : Instr, decodeWord (encode i) = .ok i
  | .cls => encodedAs_cls.2
  | .ret => encodedAs_ret.2
  | .jp nnn => (encodedAs_jp nnn).2
  | .call nnn => (encodedAs_call nnn).2
  | .seImm x nn => (encodedAs_seImm x nn).2
  | .sneImm x nn => (encodedAs_sneImm x nn).2
  | .seReg x y => (encodedAs_seReg x y).2
  | .ldImm x nn => (encodedAs_ldImm x nn).2
  | .addImm x nn => (encodedAs_addImm x nn).2
  | .ldReg x y => (encodedAs_ldReg x y).2
  | .orReg x y => (encodedAs_orReg x y).2
  | .andReg x y => (encodedAs_andReg x y).2
  | .xorReg x y => (encodedAs_xorReg x y).2
  | .addReg x y => (encodedAs_addReg x y).2
  | .subReg x y => (encodedAs_subReg x y).2
  | .shr x y => (encodedAs_shr x y).2
  | .subnReg x y => (encodedAs_subnReg x y).2
  | .shl x y => (encodedAs_shl x y).2
  | .sneReg x y => (encodedAs_sneReg x y).2
  | .ldI nnn => (encodedAs_ldI nnn).2
  | .jpV0 nnn => (encodedAs_jpV0 nnn).2
  | .rnd x nn => (encodedAs_rnd x nn).2
  | .drw x y n => (encodedAs_drw x y n).2
  | .skp x => (encodedAs_skp x).2
  | .sknp x => (encodedAs_sknp x).2
  | .ldVxDt x => (encodedAs_ldVxDt x).2
  | .ldVxK x => (encodedAs_ldVxK x).2
  | .ldDtVx x => (encodedAs_ldDtVx x).2
  | .ldStVx x => (encodedAs_ldStVx x).2
  | .addI x => (encodedAs_addI x).2
  | .ldF x => (encodedAs_ldF x).2
  | .ldB x => (encodedAs_ldB x).2
  | .storeRegs x => (encodedAs_storeRegs x).2
  | .loadRegs x => (encodedAs_loadRegs x).2

/-- R54: the bytes of a word, put together again, are the word. -/
theorem wordOfBytes_bytesOfWord (w : Word) :
    wordOfBytes (w.extractLsb' 8 8) (w.extractLsb' 0 8) = w := by
  rw [wordOfBytes, BitVec.extractLsb'_append_extractLsb'_eq_extractLsb' (show 8 = 0 + 8 from rfl),
    BitVec.extractLsb'_eq_self]

/-- R70: the decoder on bytes decodes the word of the first two and hands back the rest. -/
theorem decodeBytes_bytesOfWord {w : Word} {i : Instr} (h : decodeWord w = .ok i) (rest : List Byte) :
    decodeBytes (bytesOfWord w ++ rest) = .ok (i, rest) := by
  simp only [bytesOfWord, List.cons_append, List.nil_append, decodeBytes, wordOfBytes_bytesOfWord, h]

/-- Settles O1: on bytes by `decodeBytes_bytesOfWord`, on words by `decodeWord_encode`. -/
theorem decodeOfEncode : Obligations.DecodeOfEncode := by
  intro i rest
  exact decodeBytes_bytesOfWord (decodeWord_encode i) rest

/-! ### The decoder by family (R76 to R80) -/

/-- A nibble is one of 16. -/
theorem nibble_cases : ∀ f : Nibble, f = 0x0 ∨ f = 0x1 ∨ f = 0x2 ∨ f = 0x3 ∨ f = 0x4 ∨ f = 0x5 ∨ f = 0x6 ∨
    f = 0x7 ∨ f = 0x8 ∨ f = 0x9 ∨ f = 0xA ∨ f = 0xB ∨ f = 0xC ∨ f = 0xD ∨ f = 0xE ∨ f = 0xF := by decide

section Families

variable {w : Word} {i : Instr}

theorem decodeWord_ok_iff : decodeWord w = .ok i ↔ decodeWord? w = some i := by
  unfold decodeWord
  cases decodeWord? w <;> simp

theorem decodeWord_error_iff : (∃ e, decodeWord w = .error e) ↔ decodeWord? w = none := by
  unfold decodeWord
  cases decodeWord? w <;> simp

theorem decodeWord?_family0 (h : fieldF w = 0x0) : decodeWord? w = decodeFamily0 w := by
  simp [decodeWord?, h]

theorem decodeWord?_family5 (h : fieldF w = 0x5) :
    decodeWord? w = decodeIfNZero w (.seReg (fieldX w) (fieldY w)) := by
  simp [decodeWord?, h]

theorem decodeWord?_family8 (h : fieldF w = 0x8) : decodeWord? w = decodeFamily8 w := by
  simp [decodeWord?, h]

theorem decodeWord?_family9 (h : fieldF w = 0x9) :
    decodeWord? w = decodeIfNZero w (.sneReg (fieldX w) (fieldY w)) := by
  simp [decodeWord?, h]

theorem decodeWord?_familyE (h : fieldF w = 0xE) : decodeWord? w = decodeFamilyE w := by
  simp [decodeWord?, h]

theorem decodeWord?_familyF (h : fieldF w = 0xF) : decodeWord? w = decodeFamilyF w := by
  simp [decodeWord?, h]

end Families

/-! ### Encoding what was decoded -/

section Fields

variable (w : Word)

/-- R71: a word is its family and NNN. -/
theorem fields_address : fieldF w ++ fieldNNN w = w := by
  rw [fieldF, fieldNNN, BitVec.extractLsb'_append_extractLsb'_eq_extractLsb' (show 12 = 0 + 12 from rfl),
    BitVec.extractLsb'_eq_self]

/-- R71: a word is its family, X and NN. -/
theorem fields_regByte : fieldF w ++ fieldX w ++ fieldNN w = w := by
  rw [fieldF, fieldX, fieldNN,
    BitVec.extractLsb'_append_extractLsb'_eq_extractLsb' (show 12 = 8 + 4 from rfl),
    BitVec.extractLsb'_append_extractLsb'_eq_extractLsb' (show 8 = 0 + 8 from rfl),
    BitVec.extractLsb'_eq_self]

/-- R71: a word is its family, X, Y and N. -/
theorem fields_regReg : fieldF w ++ fieldX w ++ fieldY w ++ fieldN w = w := by
  rw [fieldF, fieldX, fieldY, fieldN,
    BitVec.extractLsb'_append_extractLsb'_eq_extractLsb' (show 12 = 8 + 4 from rfl),
    BitVec.extractLsb'_append_extractLsb'_eq_extractLsb' (show 8 = 4 + 4 from rfl),
    BitVec.extractLsb'_append_extractLsb'_eq_extractLsb' (show 4 = 0 + 4 from rfl),
    BitVec.extractLsb'_eq_self]

end Fields

section Decoded

variable {w : Word} {i : Instr}

/-- R76: the word of 00E0 or 00EE is its family and the NNN the decoder tested. -/
theorem encode_of_decodeFamily0 (hF : fieldF w = 0x0) (h : decodeFamily0 w = some i) : encode i = w := by
  have hw := fields_address w
  unfold decodeFamily0 at h
  split_ifs at h <;> cases h <;> simp_all [encode]

/-- R77: in families 0x5 and 0x9 a word that decodes has N = 0, which the instruction does not hold. -/
theorem encode_of_decodeIfNZero {j : Instr} (henc : encode j = fieldF w ++ fieldX w ++ fieldY w ++ 0x0#4)
    (h : decodeIfNZero w j = some i) : encode i = w := by
  have hw := fields_regReg w
  unfold decodeIfNZero at h
  split_ifs at h with hN
  cases h
  rw [hN] at hw
  exact henc.trans hw

/-- R78: a word of family 0x8 that decodes is its family, X, Y and the N the decoder tested. -/
theorem encode_of_decodeFamily8 (hF : fieldF w = 0x8) (h : decodeFamily8 w = some i) : encode i = w := by
  have hw := fields_regReg w
  unfold decodeFamily8 at h
  split_ifs at h <;> cases h <;> simp_all [encode]

/-- R79: a word of family 0xE that decodes is its family, X and the NN the decoder tested. -/
theorem encode_of_decodeFamilyE (hF : fieldF w = 0xE) (h : decodeFamilyE w = some i) : encode i = w := by
  have hw := fields_regByte w
  unfold decodeFamilyE at h
  split_ifs at h <;> cases h <;> simp_all [encode]

/-- R80: a word of family 0xF that decodes is its family, X and the NN the decoder tested. -/
theorem encode_of_decodeFamilyF (hF : fieldF w = 0xF) (h : decodeFamilyF w = some i) : encode i = w := by
  have hw := fields_regByte w
  unfold decodeFamilyF at h
  split_ifs at h <;> cases h <;> simp_all [encode]

/-- The decoder has one answer. -/
theorem encode_of_decodeWord_eq {j : Instr} (hj : decodeWord w = .ok j) (henc : encode j = w)
    (h : decodeWord w = .ok i) : encode i = w := by
  cases hj.symm.trans h
  exact henc

/-- R84: what the decoder answers encodes to the word; the layout is the one of the word's family. -/
theorem encode_of_decodeWord (h : decodeWord w = .ok i) : encode i = w := by
  have haddr := fields_address w
  have hbyte := fields_regByte w
  have hreg := fields_regReg w
  have h? := decodeWord_ok_iff.mp h
  rcases nibble_cases (fieldF w) with
    hF | hF | hF | hF | hF | hF | hF | hF | hF | hF | hF | hF | hF | hF | hF | hF <;>
    rw [hF] at haddr hbyte hreg
  · exact encode_of_decodeFamily0 hF (decodeWord?_family0 hF ▸ h?)
  · exact encode_of_decodeWord_eq (decodeWord_jp hF) haddr h
  · exact encode_of_decodeWord_eq (decodeWord_call hF) haddr h
  · exact encode_of_decodeWord_eq (decodeWord_seImm hF) hbyte h
  · exact encode_of_decodeWord_eq (decodeWord_sneImm hF) hbyte h
  · exact encode_of_decodeIfNZero (hF ▸ rfl) (decodeWord?_family5 hF ▸ h?)
  · exact encode_of_decodeWord_eq (decodeWord_ldImm hF) hbyte h
  · exact encode_of_decodeWord_eq (decodeWord_addImm hF) hbyte h
  · exact encode_of_decodeFamily8 hF (decodeWord?_family8 hF ▸ h?)
  · exact encode_of_decodeIfNZero (hF ▸ rfl) (decodeWord?_family9 hF ▸ h?)
  · exact encode_of_decodeWord_eq (decodeWord_ldI hF) haddr h
  · exact encode_of_decodeWord_eq (decodeWord_jpV0 hF) haddr h
  · exact encode_of_decodeWord_eq (decodeWord_rnd hF) hbyte h
  · exact encode_of_decodeWord_eq (decodeWord_drw hF) hreg h
  · exact encode_of_decodeFamilyE hF (decodeWord?_familyE hF ▸ h?)
  · exact encode_of_decodeFamilyF hF (decodeWord?_familyF hF ▸ h?)

end Decoded

/-- Settles O2, family by family. -/
theorem encodeOfDecode : Obligations.EncodeOfDecode := fun _ _ => encode_of_decodeWord

/-! ### The invalid words -/

section Invalid

variable {w : Word}

/-- A dispatch answers nothing when its test fails and the tests after it answer nothing. -/
theorem ite_some_eq_none_iff {α : Type} {p : Prop} [Decidable p] {a : α} {o : Option α} :
    (if p then some a else o) = none ↔ ¬ p ∧ o = none := by
  split <;> simp [*]

/-- In family 0x0 the word is its field NNN. -/
theorem eq_iff_fieldNNN_eq (hF : fieldF w = 0x0) (d : Addr12) : w = 0x0#4 ++ d ↔ fieldNNN w = d := by
  constructor
  · rintro rfl
    exact fieldNNN_address _ _
  · intro h
    have hw := fields_address w
    rw [hF, h] at hw
    exact hw.symm

theorem decodeFamily0_eq_none_iff (hF : fieldF w = 0x0) :
    decodeFamily0 w = none ↔ w ≠ 0x00E0 ∧ w ≠ 0x00EE := by
  have hcls : w = 0x00E0 ↔ fieldNNN w = 0x0E0 := eq_iff_fieldNNN_eq hF 0x0E0
  have hret : w = 0x00EE ↔ fieldNNN w = 0x0EE := eq_iff_fieldNNN_eq hF 0x0EE
  simp only [decodeFamily0, ite_some_eq_none_iff, ne_eq, hcls, hret, and_true]

theorem decodeIfNZero_eq_none_iff {i : Instr} : decodeIfNZero w i = none ↔ fieldN w ≠ 0 := by
  simp [decodeIfNZero]

theorem decodeFamily8_eq_none_iff :
    decodeFamily8 w = none ↔ 8 ≤ (fieldN w).toNat ∧ fieldN w ≠ 0xE := by
  simp only [decodeFamily8, ite_some_eq_none_iff]
  generalize fieldN w = n
  revert n
  decide

theorem decodeFamilyE_eq_none_iff :
    decodeFamilyE w = none ↔ fieldNN w ≠ 0x9E ∧ fieldNN w ≠ 0xA1 := by
  simp only [decodeFamilyE, ite_some_eq_none_iff, ne_eq, and_true]

theorem decodeFamilyF_eq_none_iff :
    decodeFamilyF w = none ↔
      fieldNN w ∉ [0x07, 0x0A, 0x15, 0x18, 0x1E, 0x29, 0x33, 0x55, 0x65] := by
  simp only [decodeFamilyF, ite_some_eq_none_iff, List.mem_cons, List.not_mem_nil, not_or, not_false_eq_true,
    and_true]

/-- A word that decodes has no error. -/
theorem decodeWord?_ne_none {i : Instr} (h : decodeWord w = .ok i) : decodeWord? w ≠ none := by
  rw [decodeWord_ok_iff.mp h]
  exact Option.some_ne_none i

/-- R76 to R81: the words no pattern matches, family by family. -/
theorem decodeWord?_eq_none_iff : decodeWord? w = none ↔
    (fieldF w = 0x0 ∧ w ≠ 0x00E0 ∧ w ≠ 0x00EE) ∨
    ((fieldF w = 0x5 ∨ fieldF w = 0x9) ∧ fieldN w ≠ 0) ∨
    (fieldF w = 0x8 ∧ 8 ≤ (fieldN w).toNat ∧ fieldN w ≠ 0xE) ∨
    (fieldF w = 0xE ∧ fieldNN w ≠ 0x9E ∧ fieldNN w ≠ 0xA1) ∨
    (fieldF w = 0xF ∧ fieldNN w ∉ [0x07, 0x0A, 0x15, 0x18, 0x1E, 0x29, 0x33, 0x55, 0x65]) := by
  rcases nibble_cases (fieldF w) with
    hF | hF | hF | hF | hF | hF | hF | hF | hF | hF | hF | hF | hF | hF | hF | hF
  · simp [hF, decodeWord?_family0 hF, decodeFamily0_eq_none_iff hF]
  · simp [hF, decodeWord?_ne_none (decodeWord_jp hF)]
  · simp [hF, decodeWord?_ne_none (decodeWord_call hF)]
  · simp [hF, decodeWord?_ne_none (decodeWord_seImm hF)]
  · simp [hF, decodeWord?_ne_none (decodeWord_sneImm hF)]
  · simp [hF, decodeWord?_family5 hF, decodeIfNZero_eq_none_iff]
  · simp [hF, decodeWord?_ne_none (decodeWord_ldImm hF)]
  · simp [hF, decodeWord?_ne_none (decodeWord_addImm hF)]
  · simp [hF, decodeWord?_family8 hF, decodeFamily8_eq_none_iff]
  · simp [hF, decodeWord?_family9 hF, decodeIfNZero_eq_none_iff]
  · simp [hF, decodeWord?_ne_none (decodeWord_ldI hF)]
  · simp [hF, decodeWord?_ne_none (decodeWord_jpV0 hF)]
  · simp [hF, decodeWord?_ne_none (decodeWord_rnd hF)]
  · simp [hF, decodeWord?_ne_none (decodeWord_drw hF)]
  · simp [hF, decodeWord?_familyE hF, decodeFamilyE_eq_none_iff]
  · simp [hF, decodeWord?_familyF hF, decodeFamilyF_eq_none_iff]

end Invalid

/-- Settles O4: the decoder answers an error when no pattern matches, which `decodeWord?_eq_none_iff` says
family by family. -/
theorem invalidWordsAreExactlyThese : Obligations.InvalidWordsAreExactlyThese := fun _ =>
  decodeWord_error_iff.trans decodeWord?_eq_none_iff

/-! ### The opcode map -/

/-- R85: the word of every instruction hits the instruction's row. -/
theorem encodeInMap : ∀ i : Instr, EncodeInMap.Statement i
  | .cls => EncodeInMap.cls
  | .ret => EncodeInMap.ret
  | .jp nnn => EncodeInMap.jp nnn
  | .call nnn => EncodeInMap.call nnn
  | .seImm x nn => EncodeInMap.seImm x nn
  | .sneImm x nn => EncodeInMap.sneImm x nn
  | .seReg x y => EncodeInMap.seReg x y
  | .ldImm x nn => EncodeInMap.ldImm x nn
  | .addImm x nn => EncodeInMap.addImm x nn
  | .ldReg x y => EncodeInMap.ldReg x y
  | .orReg x y => EncodeInMap.orReg x y
  | .andReg x y => EncodeInMap.andReg x y
  | .xorReg x y => EncodeInMap.xorReg x y
  | .addReg x y => EncodeInMap.addReg x y
  | .subReg x y => EncodeInMap.subReg x y
  | .shr x y => EncodeInMap.shr x y
  | .subnReg x y => EncodeInMap.subnReg x y
  | .shl x y => EncodeInMap.shl x y
  | .sneReg x y => EncodeInMap.sneReg x y
  | .ldI nnn => EncodeInMap.ldI nnn
  | .jpV0 nnn => EncodeInMap.jpV0 nnn
  | .rnd x nn => EncodeInMap.rnd x nn
  | .drw x y n => EncodeInMap.drw x y n
  | .skp x => EncodeInMap.skp x
  | .sknp x => EncodeInMap.sknp x
  | .ldVxDt x => EncodeInMap.ldVxDt x
  | .ldVxK x => EncodeInMap.ldVxK x
  | .ldDtVx x => EncodeInMap.ldDtVx x
  | .ldStVx x => EncodeInMap.ldStVx x
  | .addI x => EncodeInMap.addI x
  | .ldF x => EncodeInMap.ldF x
  | .ldB x => EncodeInMap.ldB x
  | .storeRegs x => EncodeInMap.storeRegs x
  | .loadRegs x => EncodeInMap.loadRegs x

/-- R75: the 34 patterns are disjoint, since on a word that hit two rows the masks in common would give
both values. -/
theorem opcodeMap_disjoint {w : Word} {r r' : OpcodeRow} (hr : r ∈ opcodeMap) (hr' : r' ∈ opcodeMap)
    (h : w &&& r.mask = r.value) (h' : w &&& r'.mask = r'.value) : r = r' := by
  have hmasks : ∀ p ∈ opcodeMap, ∀ q ∈ opcodeMap, p.value &&& q.mask = q.value &&& p.mask → p = q := by
    decide
  refine hmasks r hr r' hr' ?_
  rw [← h, ← h', BitVec.and_assoc, BitVec.and_assoc, BitVec.and_comm r.mask]

/-- R85: the rows of the map have different numbers. -/
theorem opcodeMap_number_inj : ∀ r ∈ opcodeMap, ∀ r' ∈ opcodeMap, r.number = r'.number → r = r' := by decide

/-- R85: the fields the rows fix. Every row fixes the family; in the families with invalid words it fixes
the field the family dispatches on, at one of the values R76 to R80 list. -/
theorem opcodeMap_fields : ∀ r ∈ opcodeMap, fieldF r.mask = 0xF ∧
    (fieldF r.value = 0x0 → r.mask = 0xFFFF ∧ (r.value = 0x00E0 ∨ r.value = 0x00EE)) ∧
    (fieldF r.value = 0x5 ∨ fieldF r.value = 0x9 → fieldN r.mask = 0xF ∧ fieldN r.value = 0) ∧
    (fieldF r.value = 0x8 →
      fieldN r.mask = 0xF ∧ ((fieldN r.value).toNat < 8 ∨ fieldN r.value = 0xE)) ∧
    (fieldF r.value = 0xE →
      fieldNN r.mask = 0xFF ∧ (fieldNN r.value = 0x9E ∨ fieldNN r.value = 0xA1)) ∧
    (fieldF r.value = 0xF → fieldNN r.mask = 0xFF ∧
      fieldNN r.value ∈ [0x07, 0x0A, 0x15, 0x18, 0x1E, 0x29, 0x33, 0x55, 0x65]) := by
  decide

section Hit

variable {w m v : Word}

theorem fieldF_of_masked (h : w &&& m = v) (hm : fieldF m = 0xF) : fieldF w = fieldF v := by
  rw [← h, fieldF, fieldF, BitVec.extractLsb'_and, ← fieldF, ← fieldF, hm]
  exact BitVec.and_allOnes.symm

theorem fieldN_of_masked (h : w &&& m = v) (hm : fieldN m = 0xF) : fieldN w = fieldN v := by
  rw [← h, fieldN, fieldN, BitVec.extractLsb'_and, ← fieldN, ← fieldN, hm]
  exact BitVec.and_allOnes.symm

theorem fieldNN_of_masked (h : w &&& m = v) (hm : fieldNN m = 0xFF) : fieldNN w = fieldNN v := by
  rw [← h, fieldNN, fieldNN, BitVec.extractLsb'_and, ← fieldNN, ← fieldNN, hm]
  exact BitVec.and_allOnes.symm

/-- R75, R85: a word that hits a row decodes, since no word of the invalid families hits one. -/
theorem exists_decodeWord_of_hit {r : OpcodeRow} (hr : r ∈ opcodeMap) (h : w &&& r.mask = r.value) :
    ∃ i, decodeWord w = .ok i := by
  obtain ⟨hmask, h0, h59, h8, hE, hF⟩ := opcodeMap_fields r hr
  have hfamily := fieldF_of_masked h hmask
  rw [← hfamily] at h0 h59 h8 hE hF
  cases hdec : decodeWord? w with
  | some i => exact ⟨i, decodeWord_ok_iff.mpr hdec⟩
  | none =>
    exfalso
    obtain ⟨hw, hcls, hret⟩ | ⟨hw, hn⟩ | ⟨hw, hn, hne⟩ | ⟨hw, hskp, hsknp⟩ | ⟨hw, hnn⟩ :=
      decodeWord?_eq_none_iff.mp hdec
    · obtain ⟨hall, hvalue⟩ := h0 hw
      rw [hall, show (0xFFFF : Word) = BitVec.allOnes 16 from rfl, BitVec.and_allOnes] at h
      exact hvalue.elim (fun hv => hcls (h.trans hv)) (fun hv => hret (h.trans hv))
    · obtain ⟨hall, hvalue⟩ := h59 hw
      exact hn ((fieldN_of_masked h hall).trans hvalue)
    · obtain ⟨hall, hvalue⟩ := h8 hw
      rw [← fieldN_of_masked h hall] at hvalue
      exact hvalue.elim (fun hlt => absurd hn (Nat.not_le.mpr hlt)) hne
    · obtain ⟨hall, hvalue⟩ := hE hw
      rw [← fieldNN_of_masked h hall] at hvalue
      exact hvalue.elim hskp hsknp
    · obtain ⟨hall, hvalue⟩ := hF hw
      rw [← fieldNN_of_masked h hall] at hvalue
      exact hnn hvalue

/-- R85: a word that decodes hits the row of its instruction. -/
theorem hit_of_decodeWord {i : Instr} (h : decodeWord w = .ok i) :
    ∃ r ∈ opcodeMap, r.number = i.rowNumber ∧ w &&& r.mask = r.value := by
  obtain ⟨r, hr, hnumber, hhit⟩ := encodeInMap i
  rw [encode_of_decodeWord h] at hhit
  exact ⟨r, hr, hnumber, beq_iff_eq.mp hhit⟩

/-- R85: a word hits a row exactly when it decodes to an instruction of the row. -/
theorem hit_iff_decodeWord {r : OpcodeRow} (hr : r ∈ opcodeMap) :
    w &&& r.mask = r.value ↔ ∃ i, decodeWord w = .ok i ∧ i.rowNumber = r.number := by
  constructor
  · intro h
    obtain ⟨i, hi⟩ := exists_decodeWord_of_hit hr h
    obtain ⟨r', hr', hnumber, h'⟩ := hit_of_decodeWord hi
    exact ⟨i, hi, by rw [opcodeMap_disjoint hr hr' h h', hnumber]⟩
  · rintro ⟨i, hi, hrow⟩
    obtain ⟨r', hr', hnumber, h'⟩ := hit_of_decodeWord hi
    rwa [opcodeMap_number_inj r hr r' hr' (hrow.symm.trans hnumber.symm)]

end Hit

/-- Settles O3: each row by `hit_iff_decodeWord`, and the rows apart by `opcodeMap_disjoint`. -/
theorem decodeFollowsOpcodeMap : Obligations.DecodeFollowsOpcodeMap :=
  ⟨rfl, fun _ _ hr => hit_iff_decodeWord hr, fun _ _ _ hr hr' h h' => opcodeMap_disjoint hr hr' h h'⟩

/-- Settles O5: the eight words are the encodings of their instructions, so they decode by
`decodeWord_encode`; the two others match no pattern. -/
theorem specWordsDecode : Obligations.SpecWordsDecode :=
  ⟨decodeWord_encode .ret, decodeWord_encode (.seReg 2 3), decodeWord_encode (.subReg 0xA 0xB),
    decodeWord_encode (.rnd 3 0x0F), decodeWord_encode (.drw 0xF 1 1), decodeWord_encode (.sknp 5),
    decodeWord_encode (.storeRegs 2), decodeWord_encode (.ldVxK 3), rfl, rfl⟩

end Sys2Proof.Machine
end

section
/-!
PROOFS. The updates of the state that Laws/State.lean has no field lemmas for: another stack, as 2NNN and
00EE leave it, and the key read of FX0A.
-/

namespace Sys2Proof.Machine

/-- R193: what FX0A makes of the state: VX takes the key found, or nothing changes. -/
def State.readKey (s : State) (x : Nibble) : State :=
  match s.foundKey with
  | some k => (s.setV x k).advance
  | none => s

/-- R133: an entry pushed, with room on the stack. -/
def State.pushed (s : State) (w : Word) : State :=
  s.withStack (Fin.ofNat 17 (s.sp.val + 1)) (s.stk.setIfInBounds s.sp.val w)

/-- R131: the top entry popped, with an entry on the stack; the entry keeps its value. -/
def State.popped (s : State) : State :=
  s.withStack ⟨s.sp.val - 1, by omega⟩ s.stk

/-- R131: the top entry of the stack, with an entry on it. -/
def State.top (s : State) : Word := s.stk[s.sp.val - 1]'(by omega)

section Fields

variable (s : State)

/-! ### `State.withStack` -/

@[simp] theorem State.withStack_mem (sp : Fin 17) (stk : Vector Word 16) :
    (s.withStack sp stk).mem = s.mem := rfl
@[simp] theorem State.withStack_i (sp : Fin 17) (stk : Vector Word 16) :
    (s.withStack sp stk).i = s.i := rfl
@[simp] theorem State.withStack_pc (sp : Fin 17) (stk : Vector Word 16) :
    (s.withStack sp stk).pc = s.pc := rfl
@[simp] theorem State.withStack_stk (sp : Fin 17) (stk : Vector Word 16) :
    (s.withStack sp stk).stk = stk := rfl
@[simp] theorem State.withStack_dt (sp : Fin 17) (stk : Vector Word 16) :
    (s.withStack sp stk).dt = s.dt := rfl
@[simp] theorem State.withStack_st (sp : Fin 17) (stk : Vector Word 16) :
    (s.withStack sp stk).st = s.st := rfl
@[simp] theorem State.withStack_fb (sp : Fin 17) (stk : Vector Word 16) :
    (s.withStack sp stk).fb = s.fb := rfl
@[simp] theorem State.withStack_draw (sp : Fin 17) (stk : Vector Word 16) :
    (s.withStack sp stk).draw = s.draw := rfl
@[simp] theorem State.withStack_key (sp : Fin 17) (stk : Vector Word 16) :
    (s.withStack sp stk).key = s.key := rfl
@[simp] theorem State.withStack_fault (sp : Fin 17) (stk : Vector Word 16) :
    (s.withStack sp stk).fault = s.fault := rfl
@[simp] theorem State.withStack_params (sp : Fin 17) (stk : Vector Word 16) :
    (s.withStack sp stk).params = s.params := rfl
@[simp] theorem State.withStack_result (sp : Fin 17) (stk : Vector Word 16) :
    (s.withStack sp stk).result = s.result := rfl
@[simp] theorem State.withStack_rndIn (sp : Fin 17) (stk : Vector Word 16) :
    (s.withStack sp stk).rndIn = s.rndIn := rfl
@[simp] theorem State.withStack_draws (sp : Fin 17) (stk : Vector Word 16) :
    (s.withStack sp stk).draws = s.draws := rfl
@[simp] theorem State.withStack_peek (sp : Fin 17) (stk : Vector Word 16) (a : Nat) :
    (s.withStack sp stk).peek a = s.peek a := rfl
@[simp] theorem State.withStack_vreg (sp : Fin 17) (stk : Vector Word 16) (r : Nibble) :
    (s.withStack sp stk).vreg r = s.vreg r := rfl

/-! ### `State.readKey` -/

theorem State.readKey_of_some {x : Nibble} {k : Byte} (h : s.foundKey = some k) :
    s.readKey x = (s.setV x k).advance := by
  simp only [State.readKey, h]

theorem State.readKey_of_none {x : Nibble} (h : s.foundKey = none) : s.readKey x = s := by
  simp only [State.readKey, h]

/-- What a write of VX and an advance keep, FX0A keeps. -/
theorem State.readKey_keeps {α : Type} {x : Nibble} (field : State → α)
    (h : ∀ k, field (s.setV x k).advance = field s) : field (s.readKey x) = field s := by
  cases hkey : s.foundKey with
  | some k => rw [s.readKey_of_some hkey, h]
  | none => rw [s.readKey_of_none hkey]

@[simp] theorem State.readKey_mem (x : Nibble) : (s.readKey x).mem = s.mem :=
  s.readKey_keeps State.mem fun _ => rfl
@[simp] theorem State.readKey_i (x : Nibble) : (s.readKey x).i = s.i :=
  s.readKey_keeps State.i fun _ => rfl
@[simp] theorem State.readKey_stk (x : Nibble) : (s.readKey x).stk = s.stk :=
  s.readKey_keeps State.stk fun _ => rfl
@[simp] theorem State.readKey_dt (x : Nibble) : (s.readKey x).dt = s.dt :=
  s.readKey_keeps State.dt fun _ => rfl
@[simp] theorem State.readKey_st (x : Nibble) : (s.readKey x).st = s.st :=
  s.readKey_keeps State.st fun _ => rfl
@[simp] theorem State.readKey_fb (x : Nibble) : (s.readKey x).fb = s.fb :=
  s.readKey_keeps State.fb fun _ => rfl
@[simp] theorem State.readKey_draw (x : Nibble) : (s.readKey x).draw = s.draw :=
  s.readKey_keeps State.draw fun _ => rfl
@[simp] theorem State.readKey_key (x : Nibble) : (s.readKey x).key = s.key :=
  s.readKey_keeps State.key fun _ => rfl
@[simp] theorem State.readKey_fault (x : Nibble) : (s.readKey x).fault = s.fault :=
  s.readKey_keeps State.fault fun _ => rfl
@[simp] theorem State.readKey_params (x : Nibble) : (s.readKey x).params = s.params :=
  s.readKey_keeps State.params fun _ => rfl

/-- R193: FX0A writes no register but VX. -/
theorem State.readKey_vreg_other {x r : Nibble} (h : r ≠ x) : (s.readKey x).vreg r = s.vreg r :=
  s.readKey_keeps (State.vreg · r) fun k => (s.vreg_setV x r k).trans (if_neg h)

end Fields

end Sys2Proof.Machine
end

section
/-!
PROOFS. The execute phase in one form (spec/40_cycle.md R105, R110): the fault entry of the cause that
`executeFault` gives, and `completed`, which is the instruction without its fault checks, when it gives
none. `exec_cases` is the inversion lemma the rules over all instructions are read off.
-/

namespace Sys2Proof.Machine

/-! ### The operations that check -/

section Checks

variable (s : State)

theorem State.push?_eq_pushed (w : Word) (h : s.sp.val < 16) : s.push? w = some (s.pushed w) := by
  have hsp : (⟨s.sp.val + 1, Nat.succ_lt_succ h⟩ : Fin 17) = Fin.ofNat 17 (s.sp.val + 1) :=
    Fin.ext (Nat.mod_eq_of_lt (Nat.succ_lt_succ h)).symm
  have hstk : s.stk.set s.sp.val w h = s.stk.setIfInBounds s.sp.val w := by
    ext k hk
    simp only [Vector.getElem_set, Vector.getElem_setIfInBounds]
  rw [State.push?_room s w h, State.pushed, State.withStack, ← hsp, hstk]

theorem State.pop?_eq_popped (h : 0 < s.sp.val) : s.pop? = some (s.top, s.popped) :=
  State.pop?_some s h

/-- R133: a call with room on the stack pushes the link value and jumps. -/
theorem State.callVia_room (link : CallLink) (nnn : Addr12) (h : s.sp.val < 16) :
    s.callVia link nnn = (s.pushed (linkValue link s.pc)).setPc (zextAddr nnn) := by
  rw [State.callVia, s.push?_eq_pushed _ h]

/-- D7: a call on a full stack. -/
theorem State.callVia_full (link : CallLink) (nnn : Addr12) (h : s.sp.val = 16) :
    s.callVia link nnn = s.raise .stackOverflow := by
  rw [State.callVia, s.push?_full _ h]

/-- R131: a return with an entry on the stack goes on at the entry + 2. -/
theorem State.popReturn_some (h : 0 < s.sp.val) : s.popReturn = s.popped.setPc (s.top + 2) := by
  rw [State.popReturn, s.pop?_eq_popped h]
  rfl

/-- R131: a return on an empty stack. -/
theorem State.popReturn_empty (h : s.sp.val = 0) : s.popReturn = s.raise .stackUnderflow := by
  rw [State.popReturn, s.pop?_empty h]

end Checks

/-! ### The execute phase -/

/-- What an instruction that raises no fault makes of the state. -/
def completed (i : Instr) (s : State) : State :=
  match i with
  | .cls => (s.setFrame Frame.clear).advance
  | .ret => s.popped.setPc (s.top + 2)
  | .jp nnn => s.setPc (zextAddr nnn)
  | .call nnn => (s.pushed (linkValue s.params.callLink s.pc)).setPc (zextAddr nnn)
  | .seImm x nn => s.skipIf (s.vreg x == nn)
  | .sneImm x nn => s.skipIf (s.vreg x != nn)
  | .seReg x y => s.skipIf (s.vreg x == s.vreg y)
  | .ldImm x nn => (s.setV x nn).advance
  | .addImm x nn => (s.setV x (s.vreg x + nn)).advance
  | .ldReg x y => (s.setV x (s.vreg y)).advance
  | .orReg x y => (s.setV x (s.vreg x ||| s.vreg y)).advance
  | .andReg x y => (s.setV x (s.vreg x &&& s.vreg y)).advance
  | .xorReg x y => (s.setV x (s.vreg x ^^^ s.vreg y)).advance
  | .addReg x y => (s.flagAndData s.params.vfOrder x (fun t => carryFlag (t.vreg x) (t.vreg y))
      (fun t => t.vreg x + t.vreg y)).advance
  | .subReg x y => (s.flagAndData s.params.vfOrder x
      (fun t => noBorrowFlag s.params.subEqFlag (t.vreg x) (t.vreg y))
      (fun t => t.vreg x - t.vreg y)).advance
  | .shr x _ => (s.flagAndData s.params.vfOrder x (fun t => lowBitFlag (t.vreg x))
      (fun t => t.vreg x >>> 1)).advance
  | .subnReg x y => (s.flagAndData s.params.vfOrder x
      (fun t => noBorrowFlag s.params.subEqFlag (t.vreg y) (t.vreg x))
      (fun t => t.vreg y - t.vreg x)).advance
  | .shl x _ => (s.flagAndData s.params.vfOrder x (fun t => highBitFlag (t.vreg x))
      (fun t => t.vreg x <<< 1)).advance
  | .sneReg x y => s.skipIf (s.vreg x != s.vreg y)
  | .ldI nnn => (s.setI (zextAddr nnn)).advance
  | .jpV0 nnn => s.setPc (s.offsetTarget nnn)
  | .rnd x nn => (s.setV x (s.rndByte &&& nn)).drawn.advance
  | .drw x y n =>
    ((s.setFrame (s.drawSprite x y n).1).setV vf (flagByte (s.drawSprite x y n).2)).advance
  | .skp x => s.skipIf (s.keyDown (s.vreg x).toNat)
  | .sknp x => s.skipIf (!s.keyDown (s.vreg x).toNat)
  | .ldVxDt x => (s.setV x s.dt).advance
  | .ldVxK x => s.readKey x
  | .ldDtVx x => (s.setDt (s.vreg x)).advance
  | .ldStVx x => (s.setSt (s.vreg x)).advance
  | .addI x => ((s.setI (BitVec.ofNat 16 (indexSum s.i (s.vreg x)))).setV vf
      (indexCarryFlag s.i (s.vreg x))).advance
  | .ldF x => (s.setI (glyphAddress (s.vreg x))).advance
  | .ldB x => (s.storeAtIndex (bcdDigits (s.vreg x))).advance
  | .storeRegs x =>
    ((s.storeAtIndex (s.firstRegs (regCount x))).setI (s.indexPast (regCount x))).advance
  | .loadRegs x => ((s.loadRegFile (regCount x)).setI (s.indexPast (regCount x))).advance

section Exec

variable {i : Instr} {s t : State}

/-- D6, R211: an instruction whose execute phase faults is its fault entry. -/
theorem exec_of_fault {c : FaultCause} (h : executeFault i s = some c) : exec i s = .next (s.raise c) := by
  cases i with
  | ret =>
    obtain ⟨hsp, hc⟩ := Option.ite_none_right_eq_some.mp h
    cases hc
    exact congrArg Host.Outcome.next (s.popReturn_empty hsp)
  | call nnn =>
    obtain ⟨hsp, hc⟩ := Option.ite_none_right_eq_some.mp h
    cases hc
    exact congrArg Host.Outcome.next (s.callVia_full _ _ hsp)
  | skp x | sknp x =>
    obtain ⟨hv, hc⟩ := Option.ite_none_right_eq_some.mp h
    cases hc
    exact congrArg Host.Outcome.next (s.orKeyOutOfRange_gt _ _ hv)
  | addI x =>
    obtain ⟨hsum, hc⟩ := Option.ite_none_right_eq_some.mp h
    cases hc
    exact congrArg Host.Outcome.next (if_pos hsum)
  | drw | ldB | storeRegs | loadRegs =>
    obtain ⟨hrange, hc⟩ := Option.ite_none_right_eq_some.mp h
    cases hc
    exact congrArg Host.Outcome.next (s.orOutOfBounds_outside _ _ hrange)
  | _ => exact nomatch h

/-- R105: an instruction whose execute phase does not fault completes. -/
theorem exec_of_noFault (h : executeFault i s = none) : exec i s = .next (completed i s) := by
  cases i with
  | ret =>
    obtain ⟨hsp, -⟩ := ite_some_eq_none_iff.mp h
    exact congrArg Host.Outcome.next (s.popReturn_some (Nat.pos_of_ne_zero hsp))
  | call nnn =>
    obtain ⟨hsp, -⟩ := ite_some_eq_none_iff.mp h
    exact congrArg Host.Outcome.next (s.callVia_room _ _ (by omega))
  | skp x | sknp x =>
    obtain ⟨hv, -⟩ := ite_some_eq_none_iff.mp h
    exact congrArg Host.Outcome.next (s.orKeyOutOfRange_le _ _ (Nat.le_of_not_lt hv))
  | addI x =>
    obtain ⟨hsum, -⟩ := ite_some_eq_none_iff.mp h
    exact congrArg Host.Outcome.next (if_neg hsum)
  | drw | ldB | storeRegs | loadRegs =>
    obtain ⟨hrange, -⟩ := ite_some_eq_none_iff.mp h
    exact congrArg Host.Outcome.next (s.orOutOfBounds_inside _ _ (Nat.le_of_not_lt hrange))
  | _ => rfl

/-- What an instruction can do (R105, R110): it faults as `executeFault` says, or it completes. -/
theorem exec_cases (h : exec i s = .next t) :
    (∃ c, executeFault i s = some c ∧ t = s.raise c) ∨ (executeFault i s = none ∧ t = completed i s) := by
  cases hf : executeFault i s with
  | some c => exact .inl ⟨c, rfl, Host.Outcome.next.inj (h.symm.trans (exec_of_fault hf))⟩
  | none => exact .inr ⟨rfl, Host.Outcome.next.inj (h.symm.trans (exec_of_noFault hf))⟩

end Exec

end Sys2Proof.Machine
end

section
/-!
PROOFS. Which instruction writes what (spec/10_state.md R22, R27, spec/20_memory.md R57,
spec/42_control_flow.md R139). A fault entry writes the fault latch and the result alone, so by
`exec_cases` each rule is one about `completed`.
-/

namespace Sys2Proof.Machine

/-! ### Registers after a write and after a load -/

theorem State.vreg_setV_other (s : State) {x r : Nibble} (b : Byte) (h : r ≠ x) :
    (s.setV x b).vreg r = s.vreg r := by
  rw [State.vreg_setV, if_neg h]

/-- R175: the registers below the count are loaded from memory at I, the others kept. -/
theorem State.vreg_loadRegFile (s : State) (n : Nat) (r : Nibble) :
    (s.loadRegFile n).vreg r = if r.toNat < n then s.peek (s.i.toNat + r.toNat) else s.vreg r :=
  getElem_loadFirst _ n s.v r.toNat r.isLt

section Frame

variable (i : Instr) (s : State)

/-! ### What every completed instruction leaves -/

@[simp] theorem completed_key : (completed i s).key = s.key := by
  cases i <;> simp [completed, State.pushed, State.popped, State.storeAtIndex]

@[simp] theorem completed_fault : (completed i s).fault = s.fault := by
  cases i <;> simp [completed, State.pushed, State.popped, State.storeAtIndex]

@[simp] theorem completed_params : (completed i s).params = s.params := by
  cases i <;> simp [completed, State.pushed, State.popped, State.storeAtIndex]

variable {i}

/-! ### What all but the listed instructions leave -/

theorem completed_mem (hbcd : ∀ x, i ≠ .ldB x) (hstore : ∀ x, i ≠ .storeRegs x) :
    (completed i s).mem = s.mem := by
  cases i with
  | ldB x => exact absurd rfl (hbcd x)
  | storeRegs x => exact absurd rfl (hstore x)
  | _ => simp [completed, State.pushed, State.popped]

theorem completed_peek (hbcd : ∀ x, i ≠ .ldB x) (hstore : ∀ x, i ≠ .storeRegs x) (a : Nat) :
    (completed i s).peek a = s.peek a := by
  rw [State.peek, completed_mem s hbcd hstore, completed_params, State.peek]

theorem completed_screen (hcls : i ≠ .cls) (hdrw : ∀ x y n, i ≠ .drw x y n) :
    KeepsScreen s (completed i s) := by
  cases i with
  | cls => exact absurd rfl hcls
  | drw x y n => exact absurd rfl (hdrw x y n)
  | _ => simp [KeepsScreen, completed, State.pushed, State.popped, State.storeAtIndex]

theorem completed_i (h : ¬ WritesIndex i) : (completed i s).i = s.i := by
  cases i with
  | ldI | addI | ldF | storeRegs | loadRegs => exact absurd trivial h
  | _ => simp [completed, State.pushed, State.popped, State.storeAtIndex]

theorem completed_pc (h : ¬ WritesPc i) : (completed i s).pc = s.pc + 2 := by
  cases i with
  | ret | jp | call | jpV0 | ldVxK | seImm | sneImm | seReg | sneReg | skp | sknp =>
    exact absurd trivial h
  | _ => simp [completed, State.storeAtIndex]

theorem completed_dt (h : ∀ x, i ≠ .ldDtVx x) : (completed i s).dt = s.dt := by
  cases i with
  | ldDtVx x => exact absurd rfl (h x)
  | _ => simp [completed, State.pushed, State.popped, State.storeAtIndex]

theorem completed_st (h : ∀ x, i ≠ .ldStVx x) : (completed i s).st = s.st := by
  cases i with
  | ldStVx x => exact absurd rfl (h x)
  | _ => simp [completed, State.pushed, State.popped, State.storeAtIndex]

theorem completed_stk (h : ∀ nnn, i ≠ .call nnn) : (completed i s).stk = s.stk := by
  cases i with
  | call nnn => exact absurd rfl (h nnn)
  | _ => simp [completed, State.popped, State.storeAtIndex]

theorem completed_vreg {r : Nibble} (h : ¬ WritesReg i r) : (completed i s).vreg r = s.vreg r := by
  cases i with
  | ldImm | addImm | ldReg | orReg | andReg | xorReg | rnd | ldVxDt | drw | addI =>
    exact State.vreg_setV_other _ _ h
  | addReg | subReg | shr | subnReg | shl =>
    exact State.vreg_flagAndData_other _ _ _ _ _ _ (fun hx => h (.inl hx)) (fun hf => h (.inr hf))
  | ldVxK x => exact s.readKey_vreg_other h
  | loadRegs x =>
    have hr : ¬ r.toNat < regCount x := fun hlt => h (Nat.le_of_lt_succ hlt)
    exact (s.vreg_loadRegFile (regCount x) r).trans (if_neg hr)
  | _ => simp [completed, State.pushed, State.popped, State.storeAtIndex]

end Frame

/-! ### The obligations -/

/-- Settles O23: a fault entry keeps memory, and so does every completed instruction that is no store. -/
theorem onlyStoresWriteMemory : Obligations.OnlyStoresWriteMemory := by
  intro i s t hbcd hstore h a
  obtain ⟨c, -, rfl⟩ | ⟨-, rfl⟩ := exec_cases h
  · exact s.raise_peek c a
  · exact completed_peek s hbcd hstore a

/-- Settles O24: a fault entry keeps the screen, and of the completed instructions the two that write the
framebuffer set DRAW with it. -/
theorem onlyDisplayWritesScreen : Obligations.OnlyDisplayWritesScreen := by
  refine ⟨fun s => rfl, fun i s t h => ⟨?others, ?cls, ?drw⟩⟩
  case others =>
    intro hcls hdrw
    obtain ⟨c, -, rfl⟩ | ⟨-, rfl⟩ := exec_cases h
    · exact ⟨rfl, rfl⟩
    · exact completed_screen s hcls hdrw
  case cls =>
    rintro rfl
    cases h
    rfl
  case drw =>
    rintro x y n rfl hs
    obtain ⟨c, -, rfl⟩ | ⟨-, rfl⟩ := exec_cases h
    · exact .inr ⟨Option.some_ne_none _, rfl, rfl⟩
    · exact .inl ⟨hs, rfl⟩

/-- Settles O27: a fault entry keeps I, and so does every completed instruction outside the list. -/
theorem onlyListedInstructionsWriteIndex : Obligations.OnlyListedInstructionsWriteIndex := by
  intro i s t hwrites h
  obtain ⟨c, -, rfl⟩ | ⟨-, rfl⟩ := exec_cases h
  · rfl
  · exact completed_i s hwrites

/-- Settles O28: a fault entry keeps the registers, and a completed instruction those that its row of the
table does not list. -/
theorem registerWritesAreThoseOfTheTable : Obligations.RegisterWritesAreThoseOfTheTable := by
  intro i s t r hwrites h
  obtain ⟨c, -, rfl⟩ | ⟨-, rfl⟩ := exec_cases h
  · rfl
  · exact completed_vreg s hwrites

/-- Settles O29: with no fault latched after it the instruction completed, and outside the list a completed
instruction makes the advance of R103 alone. -/
theorem onlyControlFlowWritesPc : Obligations.OnlyControlFlowWritesPc := by
  intro i s t hwrites _ h hfault
  obtain ⟨c, -, rfl⟩ | ⟨-, rfl⟩ := exec_cases h
  · exact absurd hfault (Option.some_ne_none _)
  · exact completed_pc s hwrites

end Sys2Proof.Machine
end

section
/-!
PROOFS. What a step can do (spec/40_cycle.md R100 to R114, spec/60_exceptions.md R210 to R215).
`step_outcomes` says it once, with the fault table `stepFault`: a faulted core answers its fault again, a
faulting step is one fault entry, and any other step is its completed instruction with the end of the step.
-/

namespace Sys2Proof.Machine

section Step

variable {i : Instr} {s t u : State} {w : Word}

/-! ### One equation per way a step can go -/

/-- R111: a step of a faulted core. -/
theorem step_of_faulted {r : FaultRecord} (h : s.fault = some r) : step s = .next (s.faultAgain r) := by
  simp only [step, State.fetchDecode, h]

/-- R101: a step with PC above 4094. -/
theorem step_of_noWord (hs : s.fault = none) (hw : s.fetchWord = none) :
    step s = .next (s.raise (.fetchOutOfBounds s.pc)) := by
  simp only [step, State.fetchDecode, hs, hw]

/-- R104: a step that fetches an invalid word. -/
theorem step_of_invalid {e : DecodeError} (hs : s.fault = none) (hw : s.fetchWord = some w)
    (hd : decodeWord w = .error e) : step s = .next (s.raise (.invalidOpcode w s.pc)) := by
  simp only [step, State.fetchDecode, hs, hw, hd]

/-- R106: a key-wait retry returns Ok(0) and ends before the timer phase. -/
theorem step_of_keyWait {x : Nibble} (hs : s.fault = none) (hw : s.fetchWord = some w)
    (hd : decodeWord w = .ok (.ldVxK x)) (hkey : s.key = 0) : step s = .next (s.returnOk false) := by
  have hnone : s.foundKey = none := s.foundKey_eq_none_iff.mpr hkey
  have hwait : keyWait (.ldVxK x) s = true := (keyWait_eq_true_iff _ s).mpr ⟨⟨x, rfl⟩, hkey⟩
  rw [step_of_decoded hs hw hd (exec_of_noFault rfl), completed, s.readKey_of_none hnone, endStep, hs, hwait]
  rfl

/-- R70: the instruction of some bytes is that of the word the first two make. -/
theorem decodeWord_of_decodeBytes {hi lo : Byte} {rest : List Byte}
    (h : decodeBytes (hi :: lo :: rest) = .ok (i, rest)) : decodeWord (wordOfBytes hi lo) = .ok i := by
  cases hd : decodeWord (wordOfBytes hi lo) with
  | ok j =>
    simp only [decodeBytes, hd] at h
    cases h
    rfl
  | error e =>
    simp only [decodeBytes, hd] at h
    exact nomatch h

/-! ### The inversion lemma -/

/-- R106 to R109: the end of a step that left no fault returns Ok, with or without the timer phase. -/
theorem endStep_of_noFault (h : u.fault = none) :
    ∃ b v, endStep i s u = v.returnOk b ∧ (v = u ∨ v = u.timerPhase) := by
  obtain ⟨r, hr, -⟩ | ⟨-, -, he⟩ | ⟨-, -, he⟩ := endStep_cases i s u
  · exact absurd (h.symm.trans hr) nofun
  · exact ⟨_, _, he, .inl rfl⟩
  · exact ⟨_, _, he, .inr rfl⟩

/-- R211, R214: the fault of a step that fetches an instruction is that of its execute phase. -/
theorem stepFault_of_decoded (hw : s.fetchWord = some w) (hd : decodeWord w = .ok i) :
    stepFault s = executeFault i s := by
  simp only [stepFault, hw, hd]

/-- What a step can do, with the fault of R211: return the latched fault again, raise a fault, or complete
an instruction. -/
theorem step_outcomes (h : step s = .next t) :
    (∃ r, s.fault = some r ∧ t = s.faultAgain r) ∨
    (s.fault = none ∧ ∃ c, stepFault s = some c ∧ t = s.raise c) ∨
    (s.fault = none ∧ stepFault s = none ∧ ∃ w i, s.fetchWord = some w ∧ decodeWord w = .ok i ∧
      executeFault i s = none ∧
      ∃ b v, t = v.returnOk b ∧ (v = completed i s ∨ v = (completed i s).timerPhase)) := by
  obtain herr | ⟨i, u, hok, hu, rfl⟩ := step_cases s t h
  · obtain ⟨r, hr, rfl⟩ | ⟨hs, hw, rfl⟩ | ⟨hs, w, e, hw, hd, rfl⟩ := s.fetchDecode_error t herr
    · exact .inl ⟨r, hr, rfl⟩
    · exact .inr (.inl ⟨hs, _, by simp only [stepFault, hw], rfl⟩)
    · exact .inr (.inl ⟨hs, _, by simp only [stepFault, hw, hd], rfl⟩)
  · obtain ⟨hs, w, hw, hd⟩ := (s.fetchDecode_ok i).mp hok
    have hstep := stepFault_of_decoded hw hd
    obtain ⟨c, hc, rfl⟩ | ⟨hnone, rfl⟩ := exec_cases hu
    · exact .inr (.inl ⟨hs, c, hstep.trans hc, rfl⟩)
    · have hfault : (completed i s).fault = none := (completed_fault i s).trans hs
      exact .inr (.inr ⟨hs, hstep.trans hnone, w, i, hw, hd, hnone, endStep_of_noFault hfault⟩)

/-- R114: a step answers a next state. -/
theorem step_next (s : State) : ∃ t, step s = .next t := by
  cases hfetch : s.fetchDecode with
  | error e => exact ⟨e, by simp only [step, hfetch]⟩
  | ok i =>
    obtain ⟨u, hu⟩ := exec_next i s
    exact ⟨endStep i s u, by simp only [step, hfetch, hu]⟩

/-- R34: no step writes the key latch. -/
theorem step_key (h : step s = .next t) : t.key = s.key := by
  obtain ⟨r, -, rfl⟩ | ⟨-, c, -, rfl⟩ | ⟨-, -, w, i, -, -, -, b, v, rfl, rfl | rfl⟩ := step_outcomes h
  · rfl
  · rfl
  · exact completed_key i s
  · exact completed_key i s

end Step

/-! ### The obligations -/

/-- Settles O7: the two bytes at PC are the fetched word, so the fetch phase answers the instruction. -/
theorem stepRunsDecodedInstruction : Obligations.StepRunsDecodedInstruction := by
  intro s i hs hpc hdecode
  obtain ⟨u, hu⟩ := exec_next i s
  rw [step_of_decoded hs (s.fetchWord_inside hpc) (decodeWord_of_decodeBytes hdecode) hu, hu]

/-- Settles O8: Reset(P) by its length check, Step by `step_next`, the others by definition. -/
theorem hostOpsAlwaysAnswer : Obligations.HostOpsAlwaysAnswer := by
  intro op s
  refine ⟨?answers, ?reads⟩
  case answers =>
    cases op with
    | reset image =>
      by_cases hfits : image.length ≤ 3584
      · exact .inl ⟨_, if_pos hfits⟩
      · exact .inr ⟨image, rfl, Nat.lt_of_not_le hfits, if_neg hfits⟩
    | step rnd => exact .inl (step_next _)
    | _ => exact .inl ⟨_, rfl⟩
  case reads =>
    rintro (rfl | rfl | rfl) <;> rfl

/-- Settles O9: in each outcome of a step the result is the latched fault, or Ok with no fault latched. -/
theorem stepReturnsOkOrFault : Obligations.StepReturnsOkOrFault := by
  intro s t h
  obtain ⟨r, hr, rfl⟩ | ⟨-, c, -, rfl⟩ | ⟨hs, -, w, i, -, -, -, b, v, rfl, hv⟩ := step_outcomes h
  · exact .inr ⟨r, rfl, hr⟩
  · exact .inr ⟨_, rfl, rfl⟩
  · have hfault : (completed i s).fault = none := (completed_fault i s).trans hs
    exact .inl ⟨b, rfl, by rcases hv with rfl | rfl <;> exact hfault⟩

/-- Settles O10: with PC above 4094 no word is fetched, and both faults are fault entries. -/
theorem fetchAndDecodeFaultsAreTaken : Obligations.FetchAndDecodeFaultsAreTaken := by
  constructor
  · intro s hs hpc
    have hw := s.fetchWord_outside hpc
    exact ⟨hw, _, step_of_noWord hs hw, s.raisedFrom_raise _⟩
  · intro s w e hs hw hd
    exact ⟨_, step_of_invalid hs hw hd, s.raisedFrom_raise _⟩

/-- Settles O11: of the outcomes of a step with no fault latched before it, the one that leaves a fault is
the fault entry. -/
theorem faultingStepCommitsNothing : Obligations.FaultingStepCommitsNothing := by
  intro s t r hs h hr
  obtain ⟨r', hr', -⟩ | ⟨-, c, -, rfl⟩ | ⟨-, -, w, i, -, -, -, b, v, rfl, hv⟩ := step_outcomes h
  · exact absurd (hs.symm.trans hr') nofun
  · cases hr
    exact s.raisedFrom_raise c
  · have hfault : v.fault = none := by
      rcases hv with rfl | rfl <;> exact (completed_fault i s).trans hs
    exact absurd (hfault.symm.trans hr) nofun

/-- Settles O12: a fault entry latches the record of the cause `stepFault` gives, and a completed step
leaves the latch clear. -/
theorem faultsAreThoseOfTheTable : Obligations.FaultsAreThoseOfTheTable := by
  intro s t hs h
  obtain ⟨r', hr', -⟩ | ⟨-, c, hc, rfl⟩ | ⟨-, hnone, w, i, -, -, -, b, v, rfl, hv⟩ := step_outcomes h
  · exact absurd (hs.symm.trans hr') nofun
  · rw [hc]
    rfl
  · rw [hnone]
    rcases hv with rfl | rfl <;> exact (completed_fault i s).trans hs

/-- Settles O13, by induction on the number of steps: a step of a faulted core answers the same faulted
core (`step_of_faulted`). -/
theorem faultedCoreIsQuiescent : Obligations.FaultedCoreIsQuiescent := by
  intro s r k hr
  induction k generalizing s with
  | zero => exact core_run_succ 0 s _ (step_of_faulted hr)
  | succ k ih => exact (core_run_succ (k + 1) s _ (step_of_faulted hr)).trans (ih (s.faultAgain r) hr)

/-- Settles O15: the completed step of `step_completed` returns the beep of the sound timer left. -/
theorem beepIsTheSoundTimersLastTick : Obligations.BeepIsTheSoundTimersLastTick := by
  intro s u w i hs hw hd hu hfault hwait
  refine ⟨_, step_completed hs hw hd hu hfault hwait, ?_⟩
  have hone : (u.st == 1) = decide (u.st.toNat = 1) := by
    rw [Bool.eq_iff_iff, beq_iff_eq, decide_eq_true_iff, ← BitVec.toNat_inj]
    rfl
  exact congrArg (fun b => some (StepResult.ok b)) hone

/-- Settles O16, by induction on the number of steps: the state a key-wait retry answers
(`step_of_keyWait`) is again one with FX0A at PC and no key pressed. -/
theorem keyWaitFreezesTheCore : Obligations.KeyWaitFreezesTheCore := by
  intro s w x k hs hw hd hkey
  induction k generalizing s with
  | zero => exact core_run_succ 0 s _ (step_of_keyWait hs hw hd hkey)
  | succ k ih =>
    exact (core_run_succ (k + 1) s _ (step_of_keyWait hs hw hd hkey)).trans
      (ih (s.returnOk false) hs hw hkey)

end Sys2Proof.Machine
end

section
/-!
PROOFS. The key latch and the timers (spec/10_state.md R31, R34). The idea is the one of
`State.withStack`: `State.withDevices` puts other timers and another key latch in a state, and an
instruction that reads none of them commutes with it, its faults included.
-/

namespace Sys2Proof.Machine

/-- The state with other timers and another key latch. -/
def State.withDevices (s : State) (dt st : Byte) (key : BitVec 16) : State :=
  { s with dt := dt, st := st, key := key }

/-- The instructions that read the key latch (R190, R191, R193). -/
def ReadsKeys (i : Instr) : Prop :=
  match i with
  | .skp _ => True
  | .sknp _ => True
  | .ldVxK _ => True
  | _ => False

/-- The instructions that read or write a timer (R192, R194, R195). -/
def UsesTimers (i : Instr) : Prop :=
  match i with
  | .ldVxDt _ => True
  | .ldDtVx _ => True
  | .ldStVx _ => True
  | _ => False

/-! ### The coordinates of DXYN -/

/-- R121 and U9: a coordinate is the register at the start of the step, but VF in the sequential order. -/
theorem State.coordinateSource_vreg (s : State) (r : Nibble) :
    (s.coordinateSource.vreg r).toNat = s.coordinate r := by
  unfold State.coordinateSource State.coordinate
  cases s.params.vfOrder with
  | dataLast | flagLast => rfl
  | sequential => exact congrArg BitVec.toNat (s.vreg_setV vf r 0)

theorem State.drawSprite_eq (s : State) (x y n : Nibble) :
    s.drawSprite x y n = drawRows (fun r => s.peek (s.i.toNat + r)) (s.coordinate x) (s.coordinate y)
      n.toNat (s.fb, false) := by
  rw [State.drawSprite, State.coordinateSource_vreg, State.coordinateSource_vreg]

section WithDevices

variable {i : Instr} {s t : State} {dt st : Byte} {key : BitVec 16}

/-- R130: a skip neither reads nor writes the devices. -/
theorem State.skipIf_withDevices (c : Bool) :
    (s.withDevices dt st key).skipIf c = (s.skipIf c).withDevices dt st key := by
  cases c <;> rfl

/-- R163 and U9: the flag and data writes keep the devices, and do not read them if the flag and the data
are computed without them. -/
theorem State.flagAndData_withDevices {o : VfOrder} {x : Nibble} {f d : State → Byte}
    (hf : ∀ t : State, f (t.withDevices dt st key) = f t)
    (hd : ∀ t : State, d (t.withDevices dt st key) = d t) :
    (s.withDevices dt st key).flagAndData o x f d = (s.flagAndData o x f d).withDevices dt st key := by
  have hset (t : State) (r : Nibble) (b : Byte) :
      (t.withDevices dt st key).setV r b = (t.setV r b).withDevices dt st key := rfl
  cases o <;> simp only [State.flagAndData, hf, hd, hset]

/-- R121: the sprite is computed from memory, the framebuffer, I and the coordinates. -/
theorem State.drawSprite_withDevices (x y n : Nibble) :
    (s.withDevices dt st key).drawSprite x y n = s.drawSprite x y n := by
  rw [State.drawSprite_eq, State.drawSprite_eq]
  rfl

/-- An instruction's fault does not depend on the devices. -/
theorem executeFault_withDevices : executeFault i (s.withDevices dt st key) = executeFault i s := by
  cases i <;> rfl

theorem completed_withDevices (htimers : ¬ UsesTimers i) (hkeys : ReadsKeys i → key = s.key) :
    completed i (s.withDevices dt st key) = (completed i s).withDevices dt st key := by
  cases i with
  | ldVxDt | ldDtVx | ldStVx => exact absurd trivial htimers
  | seImm | sneImm | seReg | sneReg => exact State.skipIf_withDevices _
  | skp | sknp =>
    obtain rfl := hkeys trivial
    exact State.skipIf_withDevices _
  | ldVxK x =>
    obtain rfl := hkeys trivial
    have hfound : (s.withDevices dt st s.key).foundKey = s.foundKey := rfl
    cases hkey : s.foundKey with
    | some k =>
      rw [completed, completed, State.readKey_of_some _ (hfound.trans hkey), s.readKey_of_some hkey]
      rfl
    | none =>
      rw [completed, completed, State.readKey_of_none _ (hfound.trans hkey), s.readKey_of_none hkey]
  | addReg | subReg | shr | subnReg | shl =>
    exact congrArg State.advance (State.flagAndData_withDevices (fun _ => rfl) (fun _ => rfl))
  | drw x y n =>
    rw [completed, State.drawSprite_withDevices]
    rfl
  | _ => rfl

/-- An instruction that uses no timer, and that reads no keys or finds the same ones, does the same with
other devices, and leaves them. -/
theorem exec_withDevices (htimers : ¬ UsesTimers i) (hkeys : ReadsKeys i → key = s.key)
    (h : exec i s = .next t) :
    exec i (s.withDevices dt st key) = .next (t.withDevices dt st key) := by
  obtain ⟨c, hc, rfl⟩ | ⟨hnone, rfl⟩ := exec_cases h
  · exact exec_of_fault (executeFault_withDevices.trans hc)
  · rw [exec_of_noFault (executeFault_withDevices.trans hnone), completed_withDevices htimers hkeys]

/-! ### What every instruction leaves -/

/-- R34: no instruction writes the key latch. -/
theorem exec_key (h : exec i s = .next t) : t.key = s.key := by
  obtain ⟨c, -, rfl⟩ | ⟨-, rfl⟩ := exec_cases h
  · rfl
  · exact completed_key i s

/-- R31: no instruction but FX15 writes DT. -/
theorem exec_dt (hwrites : ∀ x, i ≠ .ldDtVx x) (h : exec i s = .next t) : t.dt = s.dt := by
  obtain ⟨c, -, rfl⟩ | ⟨-, rfl⟩ := exec_cases h
  · rfl
  · exact completed_dt s hwrites

/-- R31: no instruction but FX18 writes ST. -/
theorem exec_st (hwrites : ∀ x, i ≠ .ldStVx x) (h : exec i s = .next t) : t.st = s.st := by
  obtain ⟨c, -, rfl⟩ | ⟨-, rfl⟩ := exec_cases h
  · rfl
  · exact completed_st s hwrites

/-- R31: an instruction that is none of the timer instructions leaves both timers. -/
theorem exec_keepsTimers (htimers : ¬ UsesTimers i) (h : exec i s = .next t) : KeepsTimers s t := by
  refine ⟨exec_dt ?_ h, exec_st ?_ h⟩ <;>
    rintro x rfl <;> exact htimers trivial

/-! ### One device replaced -/

theorem exec_withKey {k : BitVec 16} (htimers : ¬ UsesTimers i) (hkeys : ¬ ReadsKeys i)
    (h : exec i s = .next t) : exec i { s with key := k } = .next { t with key := k } := by
  obtain ⟨hdt, hst⟩ := exec_keepsTimers htimers h
  have hown : { t with key := k } = t.withDevices s.dt s.st k := by rw [← hdt, ← hst]; rfl
  rw [hown]
  exact exec_withDevices htimers (fun hreads => absurd hreads hkeys) h

theorem exec_withSt {b : Byte} (htimers : ¬ UsesTimers i) (h : exec i s = .next t) :
    exec i { s with st := b } = .next { t with st := b } := by
  obtain ⟨hdt, -⟩ := exec_keepsTimers htimers h
  have hown : { t with st := b } = t.withDevices s.dt b s.key := by rw [← hdt, ← exec_key h]; rfl
  rw [hown]
  exact exec_withDevices htimers (fun _ => rfl) h

theorem exec_withDt {b : Byte} (htimers : ¬ UsesTimers i) (h : exec i s = .next t) :
    exec i { s with dt := b } = .next { t with dt := b } := by
  obtain ⟨-, hst⟩ := exec_keepsTimers htimers h
  have hown : { t with dt := b } = t.withDevices b s.st s.key := by rw [← hst, ← exec_key h]; rfl
  rw [hown]
  exact exec_withDevices htimers (fun _ => rfl) h

end WithDevices

/-! ### The obligations -/

/-- Settles O26: SetKeys by definition, the step by `step_key`, and another latch by `exec_withKey`; the
timer instructions, which have no branch, commute with it by definition. -/
theorem keysAreTheHostsAlone : Obligations.KeysAreTheHostsAlone := by
  refine ⟨fun s k => rfl, fun s t => step_key, fun i s t k hskp hsknp hread h => ?_⟩
  cases i with
  | skp x => exact absurd rfl (hskp x)
  | sknp x => exact absurd rfl (hsknp x)
  | ldVxK x => exact absurd rfl (hread x)
  | ldVxDt | ldDtVx | ldStVx =>
    cases h
    rfl
  | _ => exact exec_withKey id id h

/-- Settles O30: the timers are not written by `exec_dt` and `exec_st`, and not read by `exec_withSt` and
`exec_withDt`; the timer instructions, which have no branch, by definition. -/
theorem onlyTimerInstructionsUseTheTimers : Obligations.OnlyTimerInstructionsUseTheTimers := by
  intro i s t b h
  refine ⟨fun hw => exec_dt hw h, fun hw => exec_st hw h, ?otherSt, ?overwriteSt, ?overwriteDt, ?otherDt⟩
  case otherSt =>
    intro hw
    cases i with
    | ldStVx x => exact absurd rfl (hw x)
    | ldVxDt | ldDtVx =>
      cases h
      rfl
    | _ => exact exec_withSt id h
  case overwriteSt =>
    rintro x rfl
    cases h
    rfl
  case overwriteDt =>
    rintro x rfl
    cases h
    rfl
  case otherDt =>
    intro hread hw
    cases i with
    | ldVxDt x => exact absurd rfl (hread x)
    | ldDtVx x => exact absurd rfl (hw x)
    | ldStVx =>
      cases h
      rfl
    | _ => exact exec_withDt id h

end Sys2Proof.Machine
end

section
/-!
PROOFS. The invariant `State.Inv` (spec/10_state.md R26, R30, spec/60_exceptions.md R213). A fault entry
keeps it because it writes the fault latch and the result together; a completed instruction keeps each
of its clauses from a PC a step fetches at (`completed_inv`), so by `step_outcomes` every step keeps it.
-/

namespace Sys2Proof.Machine

/-! ### The values PC and the stack take -/

/-- A 16-bit sum is at most the exact one. -/
theorem word_add_le (a b : Word) : (a + b).toNat ≤ a.toNat + b.toNat := by
  rw [BitVec.toNat_add]
  exact Nat.mod_le _ _

/-- R101: a step that fetches a word has PC at most 4094. -/
theorem State.pc_le_of_fetchWord {s : State} {w : Word} (h : s.fetchWord = some w) :
    s.pc.toNat ≤ 4094 := by
  have hsome := s.fetchWord_isSome
  rw [h] at hsome
  exact of_decide_eq_true hsome.symm

/-- R30, R138: from a PC a step fetches at, a call pushes at most `maxLink`. -/
theorem linkValue_le (link : CallLink) {a : Word} (h : a.toNat ≤ 4094) :
    (linkValue link a).toNat ≤ maxLink link := by
  cases link with
  | fetchAddr => exact h
  | advancedPc => exact (word_add_le a 2).trans (Nat.add_le_add_right h 2)

theorem maxLink_le (link : CallLink) : maxLink link ≤ 4096 := by
  cases link <;> decide

/-- R55: bytes stored inside memory keep its canonical form. -/
theorem State.storeAt_wf {s : State} {a : Nat} {bs : List Byte} (h : Memory.wf s.params.fontRom s.mem)
    (ha : a + bs.length ≤ 4096) :
    Memory.wf (s.storeAt a bs).params.fontRom (s.storeAt a bs).mem :=
  Memory.pokeAll_wf bs s.mem a h ha

section Completed

variable {i : Instr} {s : State}

/-! ### The clauses, one by one -/

/-- R58: the two instructions that store do so inside memory, as their range check has passed. -/
theorem completed_mem_wf (h : Memory.wf s.params.fontRom s.mem) (hnone : executeFault i s = none) :
    Memory.wf (completed i s).params.fontRom (completed i s).mem := by
  cases i with
  | ldB x =>
    obtain ⟨hrange, -⟩ := ite_some_eq_none_iff.mp hnone
    exact State.storeAt_wf (s := s) h (Nat.le_of_not_lt hrange)
  | storeRegs x =>
    obtain ⟨hrange, -⟩ := ite_some_eq_none_iff.mp hnone
    refine State.storeAt_wf (s := s) h ?_
    rw [State.firstRegs_length]
    exact Nat.le_of_not_lt hrange
  | _ =>
    rw [completed_mem, completed_params]
    · exact h
    · exact nofun
    · exact nofun

/-- R26: from a PC a step fetches at, a skip goes at most to 4098. -/
theorem State.skipIf_pc_le (c : Bool) (hpc : s.pc.toNat ≤ 4094) : (s.skipIf c).pc.toNat ≤ 0x10FE := by
  have htwo : (s.pc + 2).toNat ≤ s.pc.toNat + 2 := word_add_le s.pc 2
  have hfour : (s.pc + 4).toNat ≤ s.pc.toNat + 4 := word_add_le s.pc 4
  rw [State.skipIf_eq, State.setPc_pc]
  split <;> omega

/-- R26: the farthest an instruction goes is the target of BNNN, 0xFFF + 0xFF. -/
theorem completed_pc_le (hinv : s.Inv) (hpc : s.pc.toNat ≤ 4094) :
    (completed i s).pc.toNat ≤ 0x10FE := by
  have htwo : (s.pc + 2).toNat ≤ s.pc.toNat + 2 := word_add_le s.pc 2
  have hadvance : (s.pc + 2).toNat ≤ 0x10FE := htwo.trans (by omega)
  have htarget (nnn : Addr12) : (zextAddr nnn).toNat ≤ 0x10FE := by
    have hnnn := nnn.isLt
    rw [zextAddr_toNat]
    omega
  cases i with
  | ret =>
    have hentry : s.top.toNat ≤ maxLink s.params.callLink := hinv.stk_le ⟨s.sp.val - 1, by omega⟩
    have hlink := maxLink_le s.params.callLink
    have hsum : (s.top + 2).toNat ≤ s.top.toNat + 2 := word_add_le s.top 2
    exact hsum.trans (by omega)
  | jp nnn | call nnn => exact htarget nnn
  | jpV0 nnn =>
    have hnnn := nnn.isLt
    have hv0 := (s.vreg 0).isLt
    refine (s.offsetTarget_toNat nnn).trans_le ?_
    omega
  | seImm | sneImm | seReg | sneReg | skp | sknp => exact State.skipIf_pc_le _ hpc
  | ldVxK x =>
    cases hkey : s.foundKey with
    | some k =>
      rw [completed, s.readKey_of_some hkey]
      exact hadvance
    | none =>
      rw [completed, s.readKey_of_none hkey]
      exact hinv.pc_le
  | _ =>
    rw [completed_pc s id]
    exact hadvance

/-- R30: the one entry a completed instruction writes is the link value of a call. -/
theorem completed_stk_le (hinv : s.Inv) (hpc : s.pc.toNat ≤ 4094) (k : Fin 16) :
    (completed i s).stk[k.val].toNat ≤ maxLink (completed i s).params.callLink := by
  rw [completed_params]
  cases i with
  | call nnn =>
    have hentry : (completed (.call nnn) s).stk[k.val] =
        if s.sp.val = k.val then linkValue s.params.callLink s.pc else s.stk[k.val] := by
      simp [completed, State.pushed, Vector.getElem_setIfInBounds]
    rw [hentry]
    split
    · exact linkValue_le _ hpc
    · exact hinv.stk_le k
  | _ =>
    rw [completed_stk]
    · exact hinv.stk_le k
    · exact nofun

/-- R26, R30: a completed instruction of a step keeps the invariant. -/
theorem completed_inv (hinv : s.Inv) (hs : s.fault = none) (hpc : s.pc.toNat ≤ 4094)
    (hnone : executeFault i s = none) : (completed i s).Inv where
  mem_wf := completed_mem_wf hinv.mem_wf hnone
  pc_le := completed_pc_le hinv hpc
  stk_le := completed_stk_le hinv hpc
  fault_result r hr := by
    rw [completed_fault, hs] at hr
    exact nomatch hr

end Completed

section Inv

variable {s t : State}

/-- D6: a fault entry latches the record it returns, with PC as it was. -/
theorem State.Inv.raise (hinv : s.Inv) (c : FaultCause) : (s.raise c).Inv where
  mem_wf := hinv.mem_wf
  pc_le := hinv.pc_le
  stk_le := hinv.stk_le
  fault_result r hr := by
    cases hr
    exact ⟨rfl, rfl⟩

/-- R111: a step of a faulted core returns the latched record again. -/
theorem State.Inv.faultAgain (hinv : s.Inv) {r : FaultRecord} (hr : s.fault = some r) :
    (s.faultAgain r).Inv where
  mem_wf := hinv.mem_wf
  pc_le := hinv.pc_le
  stk_le := hinv.stk_le
  fault_result r' hr' := by
    obtain rfl := Option.some.inj (hr.symm.trans hr')
    exact ⟨rfl, (hinv.fault_result r hr).2⟩

/-- R107: the timer phase writes nothing the invariant speaks of. -/
theorem State.Inv.timerPhase (hinv : s.Inv) : s.timerPhase.Inv :=
  ⟨hinv.mem_wf, hinv.pc_le, hinv.stk_le, hinv.fault_result⟩

/-- R109: a step returns Ok with no fault latched. -/
theorem State.Inv.returnOk (hinv : s.Inv) (hs : s.fault = none) (b : Bool) : (s.returnOk b).Inv where
  mem_wf := hinv.mem_wf
  pc_le := hinv.pc_le
  stk_le := hinv.stk_le
  fault_result _ hr := absurd (hs.symm.trans hr) nofun

/-- Every step keeps the invariant and the parameters. -/
theorem step_keeps_inv (hinv : s.Inv) (h : step s = .next t) : t.Inv ∧ t.params = s.params := by
  obtain ⟨r, hr, rfl⟩ | ⟨-, c, -, rfl⟩ | ⟨hs, -, w, i, hw, -, hnone, b, v, rfl, hv⟩ := step_outcomes h
  · exact ⟨hinv.faultAgain hr, rfl⟩
  · exact ⟨hinv.raise c, rfl⟩
  · have hdone := completed_inv hinv hs (State.pc_le_of_fetchWord hw) hnone
    have hfault : (completed i s).fault = none := (completed_fault i s).trans hs
    obtain rfl | rfl := hv
    · exact ⟨hdone.returnOk hfault b, completed_params i s⟩
    · exact ⟨hdone.timerPhase.returnOk hfault b, completed_params i s⟩

end Inv

/-- Settles O18, by `step_outcomes` and the lemma on each outcome. -/
theorem stepKeepsInvariant : Obligations.StepKeepsInvariant := fun _ _ => step_keeps_inv

/-! ### Reset and the host's operations -/

/-- R40: the state after reset, whatever the parameters. -/
theorem State.resetAt_inv (p : Params) : (State.resetAt p).Inv where
  mem_wf := Memory.nil_wf
  pc_le := (by decide : Config.resetPc.toNat ≤ 0x10FE)
  stk_le k := by simp [State.resetAt]
  fault_result := nofun

/-- R240: Reset(P) with an image that fits stores it inside memory. -/
theorem State.construct_inv (p : Params) {image : List Byte} (h : ImageFits image) :
    (State.construct p image).Inv := by
  have hinv := State.resetAt_inv p
  have himage : Config.progBase + image.length ≤ 4096 := Nat.add_le_add_left h Config.progBase
  rw [State.construct_eq]
  exact ⟨State.storeAt_wf hinv.mem_wf himage, hinv.pc_le, hinv.stk_le, hinv.fault_result⟩

/-- Settles O17, by `State.resetAt_inv`. -/
theorem resetMeetsInvariant : Obligations.ResetMeetsInvariant :=
  ⟨rfl, fun p => ⟨State.resetAt_inv p, rfl⟩⟩

/-- Settles O19: Reset(P) by `State.construct_inv`, Step by `step_keeps_inv`, and the others write nothing
the invariant speaks of. -/
theorem hostOpsKeepInvariant : Obligations.HostOpsKeepInvariant := by
  intro op s t hinv h
  cases op with
  | reset image =>
    by_cases hfits : ImageFits image
    · cases (if_pos hfits).symm.trans h
      exact ⟨State.construct_inv s.params hfits, rfl⟩
    · cases (if_neg hfits).symm.trans h
  | setKeys k =>
    cases h
    exact ⟨⟨hinv.mem_wf, hinv.pc_le, hinv.stk_le, hinv.fault_result⟩, rfl⟩
  | step rnd =>
    have hnamed : State.Inv { s with rndIn := some rnd } :=
      ⟨hinv.mem_wf, hinv.pc_le, hinv.stk_le, hinv.fault_result⟩
    exact step_keeps_inv (s := { s with rndIn := some rnd }) hnamed h
  | clearDraw =>
    cases h
    exact ⟨⟨hinv.mem_wf, hinv.pc_le, hinv.stk_le, hinv.fault_result⟩, rfl⟩
  | readFB | readDraw | readFault =>
    cases h
    exact ⟨hinv, rfl⟩

end Sys2Proof.Machine
end

section
/-!
PROOFS. The canonical form of memory (log 10) and the state Reset(P) constructs (spec/70_reset_and_hazards.md
R240, R241). A canonical memory lists exactly the addresses that do not read as the reset image, each with
the byte read there, so what it reads determines it.
-/

namespace Sys2Proof.Machine

section Canonical

variable {font : Vector Byte 80}

/-- With the addresses strictly rising, a listed address reads as its entry. -/
theorem Memory.peek_of_mem {m : Memory} (hm : m.Pairwise (fun c d => c.1 < d.1)) {a : Nat} {b : Byte}
    (h : (a, b) ∈ m) : Memory.peek font m a = b := by
  induction m with
  | nil => exact nomatch h
  | cons e m ih =>
    obtain ⟨k, d⟩ := e
    obtain ⟨hlt, hm⟩ := List.pairwise_cons.mp hm
    obtain heq | hin := List.mem_cons.mp h
    · cases heq
      exact if_pos rfl
    · have hne : a ≠ k := (hlt (a, b) hin).ne'
      exact (if_neg hne).trans (ih hm hin)

/-- An address that does not read as the reset image is listed, with the byte it reads as. -/
theorem Memory.mem_of_peek_ne {m : Memory} {a : Nat} (h : Memory.peek font m a ≠ Memory.resetByte font a) :
    (a, Memory.peek font m a) ∈ m := by
  induction m with
  | nil => exact absurd rfl h
  | cons e m ih =>
    obtain ⟨k, d⟩ := e
    by_cases hk : a = k
    · subst hk
      simp [Memory.peek]
    · simp only [Memory.peek, if_neg hk] at h ⊢
      exact List.mem_cons_of_mem _ (ih h)

/-- A canonical memory's entries are listed by every memory that reads alike. -/
theorem Memory.subset_of_peek_eq {m m' : Memory} (hm : Memory.wf font m)
    (h : ∀ a, a < 4096 → Memory.peek font m a = Memory.peek font m' a) : m ⊆ m' := by
  rintro ⟨a, b⟩ hin
  obtain ⟨hsorted, hcells⟩ := hm
  obtain ⟨hlt, hne⟩ := hcells (a, b) hin
  have hread : Memory.peek font m' a = b := (h a hlt).symm.trans (Memory.peek_of_mem hsorted hin)
  have hmem : (a, Memory.peek font m' a) ∈ m' := Memory.mem_of_peek_ne (hread.trans_ne hne)
  rwa [hread] at hmem

end Canonical

/-- Settles O20: each memory lists the other's entries (`Memory.subset_of_peek_eq`), and two lists sorted
by address with the same entries are equal. -/
theorem canonicalMemoryIsUnique : Obligations.CanonicalMemoryIsUnique := by
  intro font m m' hm hm' h
  have hsub := Memory.subset_of_peek_eq hm h
  have hsub' := Memory.subset_of_peek_eq hm' (fun a ha => (h a ha).symm)
  obtain ⟨hsorted, -⟩ := hm
  obtain ⟨hsorted', -⟩ := hm'
  exact List.Subset.antisymm_of_pairwise hsorted hsorted' hsub hsub'

/-- Settles O22: the length check of R241. -/
theorem oversizedImageIsRefused : Obligations.OversizedImageIsRefused := by
  intro image s h
  have hrefused : hostOp (.reset image) s = .fault .loadTooLarge := if_neg (Nat.not_le.mpr h)
  exact ⟨hrefused, rfl, congrArg loadError hrefused⟩

/-- Settles O21: by `State.construct_eq` the state is the one after reset with the image stored at 0x200,
so an address reads as the image inside it and as the reset image outside. -/
theorem resetConstructsTheState : Obligations.ResetConstructsTheState := by
  intro image s h
  have houtside (a : Nat) (ha : a < 0x200 ∨ 0x200 + image.length ≤ a) :
      ((State.resetAt s.params).storeAt Config.progBase image).peek a =
        Memory.resetByte s.params.fontRom a := State.peek_storeAt_outside _ _ _ _ ha
  refine ⟨(State.resetAt s.params).storeAt Config.progBase image, ?answers, ?font, ?below, ?image, ?above,
    ?registers, rfl, rfl, rfl, ?stack, rfl, rfl, ?pixels, rfl, rfl, rfl, rfl⟩
  case answers =>
    rw [← State.construct_eq]
    exact if_pos h
  case font =>
    intro a
    rw [houtside a.val (.inl (by omega)), Memory.resetByte_font]
  case below =>
    intro a hge hlt
    rw [houtside a (.inl hlt), Memory.resetByte_zero a hge]
  case image =>
    intro k hk
    rw [← List.getElem_eq_getD 0 (h := hk)]
    exact State.peek_storeAt_inside _ _ _ _ hk
  case above =>
    intro a hge _
    rw [houtside a (.inr hge), Memory.resetByte_zero a (by omega)]
  case registers =>
    intro r
    simp [State.vreg, State.resetAt]
  case stack =>
    intro k
    simp [State.resetAt]
  case pixels => exact fun y x => Frame.pixel_clear y x

end Sys2Proof.Machine
end

section
/-!
PROOFS. Calls, returns and the skips on registers and keys (spec/42_control_flow.md R131, R133, R136 to
R138, spec/45_input_timers.md R190, R191). A call is a push and a jump, a return a pop and a jump; what the
two leave of the state is `State.withStack_setPc_frame`.
-/

namespace Sys2Proof.Machine

section Stack

variable (s : State)

/-! ### The stack after a push and after a pop -/

theorem State.pushed_sp (w : Word) (h : s.sp.val < 16) : (s.pushed w).sp.val = s.sp.val + 1 :=
  Nat.mod_eq_of_lt (Nat.succ_lt_succ h)

theorem State.pushed_stk_same (w : Word) (h : s.sp.val < 16) : (s.pushed w).stk[s.sp.val] = w := by
  simp [State.pushed]

theorem State.pushed_stk_other (w : Word) (k : Fin 16) (h : k.val ≠ s.sp.val) :
    (s.pushed w).stk[k.val] = s.stk[k.val] := by
  simp [State.pushed, h.symm]

theorem State.top_eq (k : Fin 16) (h : s.sp.val = k.val + 1) : s.top = s.stk[k.val] := by
  simp [State.top, h]

/-- R133: the entry pushed is the one a pop gives. -/
theorem State.top_pushed (w : Word) (h : s.sp.val < 16) : (s.pushed w).top = w :=
  ((s.pushed w).top_eq ⟨s.sp.val, h⟩ (s.pushed_sp w h)).trans (s.pushed_stk_same w h)

/-- A write of the stack and a jump leave all but the stack and PC. -/
theorem State.withStack_setPc_frame (sp : Fin 17) (stk : Vector Word 16) (w : Word) :
    KeepsV s ((s.withStack sp stk).setPc w) ∧ ((s.withStack sp stk).setPc w).i = s.i ∧
      KeepsMemory s ((s.withStack sp stk).setPc w) ∧ KeepsTimers s ((s.withStack sp stk).setPc w) ∧
      KeepsScreen s ((s.withStack sp stk).setPc w) ∧ KeepsLatches s ((s.withStack sp stk).setPc w) := by
  simp [KeepsV, KeepsMemory, KeepsTimers, KeepsScreen, KeepsLatches]

/-! ### Calls and returns -/

/-- R133: the execute phase of 2NNN with room on the stack. -/
theorem exec_call (nnn : Addr12) (h : s.sp.val < 16) : exec (.call nnn) s =
    .next ((s.pushed (linkValue s.params.callLink s.pc)).setPc (zextAddr nnn)) :=
  exec_of_noFault (if_neg h.ne)

/-- R131: the execute phase of 00EE with an entry on the stack. -/
theorem exec_ret (h : 0 < s.sp.val) : exec .ret s = .next (s.popped.setPc (s.top + 2)) :=
  exec_of_noFault (if_neg h.ne')

end Stack

/-- Settles O36: a push of the link value and a jump. -/
theorem callPushesFetchAddress : Obligations.CallPushesFetchAddress := by
  intro nnn s h
  refine ⟨encodedAs_call nnn, _, exec_call s nnn h, ?fetchAddr, ?advancedPc,
    s.pushed_sp (linkValue s.params.callLink s.pc) h, s.pushed_stk_other _, zextAddr_toNat nnn,
    s.withStack_setPc_frame _ _ _⟩
  case fetchAddr =>
    intro hlink
    rw [hlink]
    exact s.pushed_stk_same _ h
  case advancedPc =>
    intro hlink
    rw [hlink]
    exact s.pushed_stk_same _ h

/-- Settles O37: a pop and a jump to the entry popped + 2. -/
theorem retResumesAfterTheCall : Obligations.RetResumesAfterTheCall := by
  refine ⟨encodedAs_ret, fun s k h => ?_⟩
  have hpos : 0 < s.sp.val := h ▸ Nat.succ_pos k.val
  have hsp : s.popped.sp.val = k.val := Nat.sub_eq_of_eq_add h
  have hpc : s.top + 2 = s.stk[k.val] + 2 := congrArg (· + 2) (s.top_eq k h)
  exact ⟨_, exec_ret s hpos, hsp, hpc, rfl, s.withStack_setPc_frame _ _ _⟩

/-- Settles O38: both are the fault entry of `exec_of_fault`. -/
theorem stackFaultsAreTaken : Obligations.StackFaultsAreTaken := by
  constructor
  · intro nnn s h
    exact ⟨_, exec_of_fault (if_pos h), s.raisedFrom_raise _⟩
  · intro s h
    exact ⟨_, exec_of_fault (if_pos h), s.raisedFrom_raise _⟩

/-- Settles O39: the return pops the link value the call pushed (`State.top_pushed`). -/
theorem callThenReturnResumes : Obligations.CallThenReturnResumes := by
  intro nnn s h
  have hcall := exec_call s nnn h
  generalize hlink : linkValue s.params.callLink s.pc = link at hcall
  have hsp : ((s.pushed link).setPc (zextAddr nnn)).sp.val = s.sp.val + 1 := s.pushed_sp link h
  have hpc : ((s.pushed link).setPc (zextAddr nnn)).top + 2 = link + 2 :=
    congrArg (· + 2) (s.top_pushed link h)
  refine ⟨_, _, hcall, exec_ret _ (hsp ▸ Nat.succ_pos _), ?pointer, ?fetchAddr, ?advancedPc, ?registers,
    ?memory⟩
  case pointer => exact Fin.ext (Nat.sub_eq_of_eq_add hsp)
  case fetchAddr =>
    intro hfetch
    rw [hfetch] at hlink
    exact hpc.trans (congrArg (· + 2) hlink.symm)
  case advancedPc =>
    intro hadvanced
    rw [hadvanced] at hlink
    rw [State.setPc_pc, hpc, ← hlink]
    exact BitVec.add_assoc s.pc 2 2
  case registers => exact fun r => rfl
  case memory => exact fun a => rfl

/-! ### Skips on registers and keys -/

/-- R136: the execute phase of 5XY0. -/
theorem exec_seReg (x y : Nibble) (s : State) :
    exec (.seReg x y) s = .next (s.skipIf (s.vreg x == s.vreg y)) := rfl

/-- R137: the execute phase of 9XY0. -/
theorem exec_sneReg (x y : Nibble) (s : State) :
    exec (.sneReg x y) s = .next (s.skipIf (s.vreg x != s.vreg y)) := rfl

/-- Settles O41: both skips by `State.skipIf_skip`, under equality and under its negation. -/
theorem registerSkips : Obligations.RegisterSkips := by
  intro x y s
  exact ⟨encodedAs_seReg x y, encodedAs_sneReg x y, ⟨_, exec_seReg x y s, s.skipIf_skip beq_iff_eq⟩,
    ⟨_, exec_sneReg x y s, s.skipIf_skip bne_iff_ne⟩⟩

/-- R190: the execute phase of EX9E with a key number in VX. -/
theorem exec_skp {x : Nibble} {s : State} (h : (s.vreg x).toNat ≤ 15) :
    exec (.skp x) s = .next (s.skipIf (s.key.getLsbD (s.vreg x).toNat)) :=
  exec_of_noFault (if_neg h.not_gt)

/-- R191: the execute phase of EXA1 with a key number in VX. -/
theorem exec_sknp {x : Nibble} {s : State} (h : (s.vreg x).toNat ≤ 15) :
    exec (.sknp x) s = .next (s.skipIf (!s.key.getLsbD (s.vreg x).toNat)) :=
  exec_of_noFault (if_neg h.not_gt)

/-- Settles O58: a key number skips by `State.skipIf_skip`, and a VX above 15 is the fault entry of
`exec_of_fault`. -/
theorem keySkips : Obligations.KeySkips := by
  intro x s
  refine ⟨encodedAs_skp x, encodedAs_sknp x, fun hle => ⟨?skipIfDown, ?skipIfUp⟩,
    fun hgt => ⟨?faultSkp, ?faultSknp⟩⟩
  case skipIfDown => exact ⟨_, exec_skp hle, s.skipIf_skip Iff.rfl⟩
  case skipIfUp => exact ⟨_, exec_sknp hle, s.skipIf_skip (iff_of_eq (Bool.not_eq_true' _))⟩
  case faultSkp => exact ⟨_, exec_of_fault (if_pos hgt), s.raisedFrom_raise _⟩
  case faultSknp => exact ⟨_, exec_of_fault (if_pos hgt), s.raisedFrom_raise _⟩

/-! ### The key read of FX0A -/

/-- R193: with a key pressed the scan finds the highest one. -/
theorem State.foundKey_of_pressed (s : State) (h : s.key ≠ 0) :
    ∃ k, k < 16 ∧ s.foundKey = some (BitVec.ofNat 8 k) ∧ s.key.getLsbD k = true ∧
      ∀ j, k < j → j < 16 → s.key.getLsbD j = false := by
  have hspec := lastPressed_spec s.key 16
  cases hfound : lastPressed s.key 16 with
  | none => exact absurd (s.foundKey_eq_none_iff.mp hfound) h
  | some b =>
    rw [hfound] at hspec
    obtain ⟨k, hk, rfl, hdown, habove⟩ := hspec
    exact ⟨k, hk, hfound, hdown, habove⟩

/-- R193: the execute phase of FX0A. -/
theorem exec_ldVxK (x : Nibble) (s : State) : exec (.ldVxK x) s = .next (s.readKey x) :=
  exec_of_noFault rfl

/-- Settles O60: with a key pressed a write of VX and an advance, after which the step counts the timers
down; with none pressed the state itself, whose step is the key-wait retry. -/
theorem keyReadTakesHighestKey : Obligations.KeyReadTakesHighestKey := by
  intro x s
  refine ⟨encodedAs_ldVxK x, ?pressed, ?none⟩
  case pressed =>
    intro hkey
    obtain ⟨k, hk, hfound, hdown, habove⟩ := s.foundKey_of_pressed hkey
    have hexec := exec_ldVxK x s
    rw [s.readKey_of_some hfound] at hexec
    obtain ⟨hpc, hv, houtside⟩ := s.setV_advance_frame x (BitVec.ofNat 8 k)
    have hvx : ((s.setV x (BitVec.ofNat 8 k)).advance.vreg x).toNat = k := by
      rw [s.vreg_setV_advance_same x]
      exact Nat.mod_eq_of_lt (by omega)
    have hwait : keyWait (.ldVxK x) s = false := keyWait_eq_false (.inr hkey)
    exact ⟨_, k, hexec, hk, hdown, habove, hvx, hpc, hv, houtside,
      fun hs => ⟨endStep_dt hs hwait, endStep_st hs hwait⟩⟩
  case none =>
    intro hkey
    have hexec := exec_ldVxK x s
    rw [s.readKey_of_none (s.foundKey_eq_none_iff.mpr hkey)] at hexec
    obtain ⟨hv, houtside⟩ := s.keepsAllButPc_setPc s.pc
    refine ⟨s, hexec, rfl, hv, houtside, fun hs => ?_⟩
    have hwait : keyWait (.ldVxK x) s = true := (keyWait_eq_true_iff _ s).mpr ⟨⟨x, rfl⟩, hkey⟩
    have hend : endStep (.ldVxK x) s s = s.returnOk false := by
      simp only [endStep, hs, hwait, if_true]
    rw [hend]
    exact ⟨rfl, rfl, rfl⟩

end Sys2Proof.Machine
end

section
/-!
PROOFS. The instructions that set a flag, and CXNN (spec/43_register_alu.md R156 to R161). What VX and VF
end as in each order of U9 is said once, in `State.flagThenData_operands`: the flag and the data are functions
of two operands, and the data of the sequential order reads them again after the flag. The rest is that the
model's bytes are the spec's numbers modulo 256.
-/

namespace Sys2Proof.Machine

section FlagWriters

variable (s : State) (x : Nibble)

/-! ### The flag and the data -/

/-- A register after VF has taken the flag is what `State.readAgain` says. -/
theorem State.vreg_setV_vf (c : Byte) (r : Nibble) : (s.setV 15 c).vreg r = s.readAgain c r :=
  s.vreg_setV 15 r c

/-- R163, U9: a flag and data computed from two operands end in VF and VX as P_VF_ORDER says. -/
theorem State.flagThenData_operands (p q : Nibble) (flag data : Byte → Byte → Byte) :
    FlagThenData s
      (s.flagAndData s.params.vfOrder x (fun t => flag (t.vreg p) (t.vreg q))
        (fun t => data (t.vreg p) (t.vreg q))).advance
      x (flag (s.vreg p) (s.vreg q)) (data (s.vreg p) (s.vreg q))
      (data (s.readAgain (flag (s.vreg p) (s.vreg q)) p)
        (s.readAgain (flag (s.vreg p) (s.vreg q)) q)) := by
  unfold FlagThenData
  simp only [State.advance_vreg, State.vreg_flagAndData, State.vreg_setV_vf]
  cases s.params.vfOrder with
  | dataLast => exact ⟨if_pos trivial, fun hx => (if_neg (Ne.symm hx)).trans (if_pos trivial)⟩
  | flagLast => exact ⟨if_pos trivial, fun hx => (if_neg hx).trans (if_pos trivial)⟩
  | sequential => exact ⟨if_pos trivial, fun hx => (if_neg (Ne.symm hx)).trans (if_pos trivial)⟩

/-- The flag and data writes and an advance move PC to the next word and leave the other registers and all
else. -/
theorem State.flagAndData_advance_frame (o : VfOrder) (f d : State → Byte) :
    (∀ r : Nibble, r ≠ x → r ≠ 15 → (s.flagAndData o x f d).advance.vreg r = s.vreg r) ∧
      (s.flagAndData o x f d).advance.pc = s.pc + 2 ∧ KeepsOutsideV s (s.flagAndData o x f d).advance := by
  refine ⟨fun r hx hf => s.vreg_flagAndData_other o x r f d hx hf, ?_, ?_⟩
  · rw [State.advance_pc, State.flagAndData_pc]
  · simp [KeepsOutsideV, KeepsMemory, KeepsStack, KeepsTimers, KeepsScreen, KeepsLatches]

end FlagWriters

/-! ### The model's bytes as numbers -/

section Bytes

variable (a b : Byte)

theorem byte_add_eq : a + b = BitVec.ofNat 8 (a.toNat + b.toNat) :=
  BitVec.eq_of_toNat_eq (by simp)

theorem byte_sub_eq : a - b = BitVec.ofNat 8 (a.toNat + 256 - b.toNat) := by
  have hb : b.toNat < 2 ^ 8 := b.isLt
  refine BitVec.eq_of_toNat_eq ?_
  rw [BitVec.toNat_sub, BitVec.toNat_ofNat]
  congr 1
  omega

theorem byte_shiftRight_eq : a >>> 1 = BitVec.ofNat 8 (a.toNat / 2) := by
  refine BitVec.eq_of_toNat_eq ?_
  have ha : a.toNat / 2 < 2 ^ 8 := (Nat.div_le_self _ _).trans_lt a.isLt
  rw [BitVec.toNat_ushiftRight, BitVec.toNat_ofNat, Nat.mod_eq_of_lt ha]
  rfl

theorem byte_shiftLeft_eq : a <<< 1 = BitVec.ofNat 8 (2 * a.toNat) := by
  refine BitVec.eq_of_toNat_eq ?_
  rw [BitVec.toNat_shiftLeft, BitVec.toNat_ofNat, Nat.shiftLeft_eq, Nat.mul_comm]

/-- R10: a flag is 1 exactly if its condition holds. -/
theorem flagByte_decide (p : Prop) [Decidable p] : flagByte (decide p) = if p then 1 else 0 := by
  simp only [flagByte, decide_eq_true_eq]

/-- R156: the carry is 1 exactly past 255. -/
theorem carryFlag_eq : carryFlag a b = if 255 < a.toNat + b.toNat then 1 else 0 :=
  flagByte_decide _

/-- R157, R159: no borrow is a greater minuend, or equal operands under P_SUB_EQ_FLAG = 1. -/
theorem noBorrowFlag_eq (e : Bool) :
    noBorrowFlag e a b = if b.toNat < a.toNat ∨ (a = b ∧ e = true) then 1 else 0 := by
  simp [noBorrowFlag, flagByte, and_comm]

/-- R158: the bit a right shift drops. -/
theorem lowBitFlag_toNat : (lowBitFlag a).toNat = a.toNat % 2 := by
  rw [lowBitFlag, BitVec.toNat_and]
  exact Nat.and_one_is_mod _

/-- R160: the bit a left shift drops. -/
theorem highBitFlag_toNat : (highBitFlag a).toNat = a.toNat / 128 := by
  rw [highBitFlag, BitVec.toNat_ushiftRight, Nat.shiftRight_eq_div_pow]

end Bytes

/-! ### The obligations -/

/-- Settles O45: the flag writer whose flag is the carry and whose data is the sum. -/
theorem addRegistersSetsCarry : Obligations.AddRegistersSetsCarry := by
  intro x y s
  refine ⟨encodedAs_addReg x y, _, exec_of_noFault rfl, ?flagAndData, s.flagAndData_advance_frame x _ _ _⟩
  case flagAndData =>
    intro c hc
    rw [← carryFlag_eq] at hc
    subst hc
    simp only [← byte_add_eq]
    exact s.flagThenData_operands x x y carryFlag (· + ·)

/-- Settles O46: the flag writers whose flag is no borrow and whose data is the difference, with the
operands in the two orders. -/
theorem subtractionsSetNoBorrow : Obligations.SubtractionsSetNoBorrow := by
  intro x y s
  refine ⟨encodedAs_subReg x y, encodedAs_subnReg x y,
    ⟨_, exec_of_noFault rfl, ?sub, s.flagAndData_advance_frame x _ _ _⟩,
    ⟨_, exec_of_noFault rfl, ?subn, s.flagAndData_advance_frame x _ _ _⟩⟩
  case sub =>
    intro c hc
    rw [← noBorrowFlag_eq] at hc
    subst hc
    simp only [← byte_sub_eq]
    exact s.flagThenData_operands x x y (noBorrowFlag s.params.subEqFlag) (· - ·)
  case subn =>
    intro c hc
    obtain rfl : noBorrowFlag s.params.subEqFlag (s.vreg y) (s.vreg x) = c := by
      rw [hc, noBorrowFlag_eq]
      exact if_congr (or_congr_right (and_congr_left' eq_comm)) rfl rfl
    simp only [← byte_sub_eq]
    exact s.flagThenData_operands x y x (noBorrowFlag s.params.subEqFlag) (· - ·)

/-- Settles O47: the flag writers whose flag is the dropped bit and whose data is the shifted VX. -/
theorem shiftsDropTheirBitIntoVf : Obligations.ShiftsDropTheirBitIntoVf := by
  intro x y s
  refine ⟨encodedAs_shr x y, encodedAs_shl x y,
    ⟨_, exec_of_noFault rfl, ?shr, s.flagAndData_advance_frame x _ _ _⟩,
    ⟨_, exec_of_noFault rfl, ?shl, s.flagAndData_advance_frame x _ _ _⟩⟩
  case shr =>
    intro c hc
    obtain rfl : lowBitFlag (s.vreg x) = c :=
      BitVec.eq_of_toNat_eq ((lowBitFlag_toNat _).trans hc.symm)
    simp only [← byte_shiftRight_eq]
    exact s.flagThenData_operands x x x (fun a _ => lowBitFlag a) (fun a _ => a >>> 1)
  case shl =>
    intro c hc
    obtain rfl : highBitFlag (s.vreg x) = c :=
      BitVec.eq_of_toNat_eq ((highBitFlag_toNat _).trans hc.symm)
    simp only [← byte_shiftLeft_eq]
    exact s.flagThenData_operands x x x (fun a _ => highBitFlag a) (fun a _ => a <<< 1)

/-! ### The random byte of CXNN -/

/-- R161: the execute phase of CXNN. -/
theorem exec_rnd (x : Nibble) (nn : Byte) (s : State) :
    exec (.rnd x nn) s = .next (s.setV x (s.rndByte &&& nn)).drawn.advance := rfl

/-- R36: the byte the host named is the step's random byte. -/
theorem State.rndByte_of_named {s : State} {b : Byte} (h : s.rndIn = some b) : s.rndByte = b := by
  simp only [State.rndByte, h]

/-- Settles O48: a write of the masked byte and an advance; the host's Step names the byte and completes
the instruction (`step_completed`). -/
theorem rndMasksTheRandomByte : Obligations.RndMasksTheRandomByte := by
  intro x nn s
  have hvx (u : State) : (u.setV x (u.rndByte &&& nn)).drawn.advance.vreg x = u.rndByte &&& nn :=
    u.vreg_setV_advance_same x _
  refine ⟨encodedAs_rnd x nn, ⟨_, exec_rnd x nn s, ?masked, ?named, ?frame⟩, ?hostStep⟩
  case masked =>
    rw [hvx, BitVec.and_assoc, BitVec.and_not_self]
    exact BitVec.and_zero
  case named =>
    intro b hb
    rw [hvx, State.rndByte_of_named hb]
  case frame =>
    obtain ⟨hpc, hv, hi, hmem, hstack, htimers, hscreen, hkey, hfault, hparams, hresult, hrnd, -⟩ :=
      s.setV_advance_frame x (s.rndByte &&& nn)
    exact ⟨hpc, hv, hi, hmem, hstack, htimers, hscreen, hkey, hfault, hparams, hresult, hrnd⟩
  case hostStep =>
    intro b hs hw
    have hstep := step_completed (s := { s with rndIn := some b }) hs hw (decodeWord_encode _)
      (exec_rnd x nn _) hs (.inl nofun)
    exact ⟨_, hstep, hvx _, rfl, hs⟩

end Sys2Proof.Machine
end

section
/-!
PROOFS. The index register and memory (spec/44_index_memory.md R171 to R176): FX1E, FX29, FX33, FX55 and
FX65, the range faults of R53, and what a store means for the fetch after it (spec/20_memory.md R62). With
its range in memory an instruction completes (`exec_of_noFault`), so the lemmas are about `completed`.
-/

namespace Sys2Proof.Machine

/-! ### Writes of I -/

/-- R172: the glyph address does not wrap. -/
theorem glyphAddress_toNat (b : Byte) : (glyphAddress b).toNat = b.toNat * 5 := by
  have hb : b.toNat < 2 ^ 8 := b.isLt
  rw [glyphAddress, BitVec.toNat_mul, zextByte_toNat]
  exact Nat.mod_eq_of_lt (by simp [Config.fontGlyphBytes]; omega)

/-- R174, R175: after the range check the new I does not wrap. -/
theorem State.indexPast_toNat (s : State) {n : Nat} (h : s.i.toNat + n ≤ 4096) :
    (s.indexPast n).toNat = s.i.toNat + n := by
  have hn : (BitVec.ofNat 16 n).toNat = n := Nat.mod_eq_of_lt (by omega)
  rw [State.indexPast, BitVec.toNat_add_of_lt (by omega), hn]

/-- R171: the flag of FX1E is 1 exactly past 0xFFF. -/
theorem indexCarryFlag_eq (i : Word) (vx : Byte) :
    indexCarryFlag i vx = if 0xFFF < i.toNat + vx.toNat then 1 else 0 :=
  flagByte_decide _

/-- Settles O50: in 16 bits a write of I and of VF and an advance, and past them the fault entry of
`exec_of_fault`. -/
theorem addIndexCarriesPast0xFFF : Obligations.AddIndexCarriesPast0xFFF := by
  intro x s
  refine ⟨encodedAs_addI x, fun hfits => ?fits, fun hover => ?past⟩
  case fits =>
    refine ⟨_, exec_of_noFault (if_neg hfits.not_gt), ?sum, ?carry, rfl, ?registers, fun a => rfl, ⟨rfl, rfl⟩,
      ⟨rfl, rfl⟩, ⟨rfl, rfl⟩, rfl, rfl, rfl, rfl, rfl, rfl⟩
    case sum => exact Nat.mod_eq_of_lt (Nat.lt_succ_of_le hfits)
    case carry => exact (State.vreg_setV_advance_same _ vf _).trans (indexCarryFlag_eq _ _)
    case registers => exact fun r hr => State.vreg_setV_other _ _ hr
  case past => exact ⟨_, exec_of_fault (if_pos hover), s.raisedFrom_raise _⟩

/-- R172: the execute phase of FX29. -/
theorem exec_ldF (x : Nibble) (s : State) :
    exec (.ldF x) s = .next (s.setI (glyphAddress (s.vreg x))).advance := rfl

/-- Settles O51: a write of I and an advance, and by `glyphAddress_toNat` the word written is 5 times VX. -/
theorem ldFontPointsAtGlyph : Obligations.LdFontPointsAtGlyph := by
  intro x s
  exact ⟨encodedAs_ldF x, _, exec_ldF x s, glyphAddress_toNat _, s.setI_advance_frame _⟩

/-! ### Stores -/

section Store

variable (s : State)

/-- R55: bytes stored at I and an advance write nothing but those bytes and PC. -/
theorem State.storeAtIndex_advance_frame (bs : List Byte) :
    KeepsMemoryOutside s.i.toNat bs.length s (s.storeAtIndex bs).advance ∧
      (s.storeAtIndex bs).advance.pc = s.pc + 2 ∧ KeepsV s (s.storeAtIndex bs).advance ∧
      (s.storeAtIndex bs).advance.i = s.i ∧ KeepsStack s (s.storeAtIndex bs).advance ∧
      KeepsTimers s (s.storeAtIndex bs).advance ∧ KeepsScreen s (s.storeAtIndex bs).advance ∧
      KeepsLatches s (s.storeAtIndex bs).advance := by
  refine ⟨fun c hc => s.peek_storeAt_outside _ _ _ hc, ?_⟩
  simp [State.storeAtIndex, KeepsV, KeepsStack, KeepsTimers, KeepsScreen, KeepsLatches]

/-- R173: the execute phase of FX33 in range. -/
theorem exec_ldB {x : Nibble} (h : s.i.toNat + 3 ≤ 4096) :
    exec (.ldB x) s = .next (s.storeAtIndex (bcdDigits (s.vreg x))).advance :=
  exec_of_noFault (if_neg h.not_gt)

variable {s} {x : Nibble}

/-- R174: the execute phase of FX55 in range. -/
theorem exec_storeRegs (h : s.i.toNat + x.toNat + 1 ≤ 4096) :
    exec (.storeRegs x) s = .next (completed (.storeRegs x) s) :=
  exec_of_noFault (if_neg (Nat.not_lt.mpr h))

theorem completed_storeRegs_peek {k : Nibble} (hk : k.toNat ≤ x.toNat) :
    (completed (.storeRegs x) s).peek (s.i.toNat + k.toNat) = s.vreg k := by
  have hlen : k.toNat < (s.firstRegs (regCount x)).length := by
    rw [State.firstRegs_length]
    exact Nat.lt_succ_of_le hk
  refine (s.peek_storeAt_inside _ _ _ hlen).trans ?_
  rw [State.firstRegs_getElem, BitVec.ofNat_toNat, BitVec.setWidth_eq]

theorem completed_storeRegs_i (h : s.i.toNat + x.toNat + 1 ≤ 4096) :
    (completed (.storeRegs x) s).i.toNat = s.i.toNat + x.toNat + 1 :=
  s.indexPast_toNat h

end Store

/-- The three digits of a byte are bytes. -/
theorem bcdDigits_toNat (b : Byte) : (BitVec.ofNat 8 (b.toNat / 100)).toNat = b.toNat / 100 ∧
    (BitVec.ofNat 8 (b.toNat / 10 % 10)).toNat = b.toNat / 10 % 10 ∧
    (BitVec.ofNat 8 (b.toNat % 10)).toNat = b.toNat % 10 := by
  have hb : b.toNat < 2 ^ 8 := b.isLt
  exact ⟨Nat.mod_eq_of_lt (by omega), Nat.mod_eq_of_lt (by omega), Nat.mod_eq_of_lt (by omega)⟩

/-- Settles O52: the three digits stored at I (`State.peek_storeAt_inside`) and an advance. -/
theorem bcdStoresThreeDigits : Obligations.BcdStoresThreeDigits := by
  intro x s h
  obtain ⟨hhundreds, htens, hones⟩ := bcdDigits_toNat (s.vreg x)
  have hread (k : Nat) (hk : k < 3) :
      (s.storeAtIndex (bcdDigits (s.vreg x))).advance.peek (s.i.toNat + k) = (bcdDigits (s.vreg x))[k] :=
    s.peek_storeAt_inside s.i.toNat k (bcdDigits (s.vreg x)) hk
  refine ⟨encodedAs_ldB x, _, exec_ldB s h, ?hundreds, ?tens, ?ones,
    s.storeAtIndex_advance_frame (bcdDigits (s.vreg x))⟩
  case hundreds => exact (congrArg BitVec.toNat (hread 0 (by decide))).trans hhundreds
  case tens => exact (congrArg BitVec.toNat (hread 1 (by decide))).trans htens
  case ones => exact (congrArg BitVec.toNat (hread 2 (by decide))).trans hones

/-- Settles O53: the registers stored at I, then a write of I and an advance. -/
theorem storeRegistersFillsMemory : Obligations.StoreRegistersFillsMemory := by
  intro x s h
  obtain ⟨houtside, hpc, hv, -, hstack, htimers, hscreen, hlatches⟩ :=
    s.storeAtIndex_advance_frame (s.firstRegs (regCount x))
  rw [State.firstRegs_length] at houtside
  exact ⟨encodedAs_storeRegs x, _, exec_storeRegs h, fun k => completed_storeRegs_peek, houtside,
    completed_storeRegs_i h, hpc, hv, hstack, htimers, hscreen, hlatches⟩

/-! ### Loads -/

section Load

variable {s : State} {x : Nibble}

/-- R175: the execute phase of FX65 in range. -/
theorem exec_loadRegs (h : s.i.toNat + x.toNat + 1 ≤ 4096) :
    exec (.loadRegs x) s = .next (completed (.loadRegs x) s) :=
  exec_of_noFault (if_neg (Nat.not_lt.mpr h))

theorem completed_loadRegs_vreg {k : Nibble} (hk : k.toNat ≤ x.toNat) :
    (completed (.loadRegs x) s).vreg k = s.peek (s.i.toNat + k.toNat) :=
  (s.vreg_loadRegFile (regCount x) k).trans (if_pos (Nat.lt_succ_of_le hk))

end Load

/-- Settles O54: the registers up to X loaded, those above kept by `completed_vreg`, then a write of I and an
advance. -/
theorem loadRegistersReadsMemory : Obligations.LoadRegistersReadsMemory := by
  intro x s h
  exact ⟨encodedAs_loadRegs x, _, exec_loadRegs h, fun k => completed_loadRegs_vreg,
    fun k hk => completed_vreg s hk.not_ge, s.indexPast_toNat h, rfl, fun a => rfl, ⟨rfl, rfl⟩, ⟨rfl, rfl⟩,
    ⟨rfl, rfl⟩, rfl, rfl, rfl, rfl, rfl, rfl⟩

/-- Settles O55: each is the fault entry of `exec_of_fault`. -/
theorem rangeFaultsAreTaken : Obligations.RangeFaultsAreTaken := by
  intro x y n s
  refine ⟨fun h => ?drw, fun h => ?bcd, fun h => ⟨?store, ?load⟩⟩
  case drw => exact ⟨_, exec_of_fault (if_pos h), s.raisedFrom_raise _⟩
  case bcd => exact ⟨_, exec_of_fault (if_pos h), s.raisedFrom_raise _⟩
  case store => exact ⟨_, exec_of_fault (if_pos h), s.raisedFrom_raise _⟩
  case load => exact ⟨_, exec_of_fault (if_pos h), s.raisedFrom_raise _⟩

/-! ### A store and what reads it -/

/-- Settles O56: the load reads at the same addresses the bytes the store left there. -/
theorem storeLoadRoundTrip : Obligations.StoreLoadRoundTrip := by
  intro x s h
  refine ⟨_, exec_storeRegs h, completed_storeRegs_i h, fun u hi hbytes => ?_⟩
  have hrange : u.i.toNat + x.toNat + 1 ≤ 4096 := hi ▸ h
  refine ⟨_, exec_loadRegs hrange, ?index, fun k hk => ?register⟩
  case index => exact congrArg (· + BitVec.ofNat 16 (regCount x)) hi
  case register =>
    calc (completed (.loadRegs x) u).vreg k
        = u.peek (s.i.toNat + k.toNat) := by rw [completed_loadRegs_vreg hk, hi]
      _ = (completed (.storeRegs x) s).peek (s.i.toNat + k.toNat) := hbytes _ (by omega) (by omega)
      _ = s.vreg k := completed_storeRegs_peek hk

section EndStep

variable (i : Instr) (s t : State)

/-- R106 to R109: the end of a step leaves PC and memory. -/
theorem endStep_pc : (endStep i s t).pc = t.pc := by
  obtain ⟨r, -, h⟩ | ⟨-, -, h⟩ | ⟨-, -, h⟩ := endStep_cases i s t <;> rw [h] <;> rfl

theorem endStep_peek (a : Nat) : (endStep i s t).peek a = t.peek a := by
  obtain ⟨r, -, h⟩ | ⟨-, -, h⟩ | ⟨-, -, h⟩ := endStep_cases i s t <;> rw [h] <;> rfl

end EndStep

/-- Settles O57: the end of the step leaves PC and memory, so the next fetch reads the two stored bytes. -/
theorem storeIsSeenByTheNextFetch : Obligations.StoreIsSeenByTheNextFetch := by
  intro x j s h hj hpc
  refine ⟨_, exec_storeRegs h, ?_⟩
  generalize hu : endStep (.storeRegs x) s (completed (.storeRegs x) s) = u
  have hread (k : Nibble) (hk : k.toNat ≤ x.toNat) : u.peek (s.i.toNat + k.toNat) = s.vreg k := by
    rw [← hu, endStep_peek, completed_storeRegs_peek hk]
  have hnext : (j + 1).toNat = j.toNat + 1 := by
    have hx : x.toNat < 2 ^ 4 := x.isLt
    exact BitVec.toNat_add_of_lt (show j.toNat + 1 < 2 ^ 4 by omega)
  have hupc : u.pc.toNat = s.i.toNat + j.toNat := by
    rw [← hu, endStep_pc, ← hpc]
    exact BitVec.toNat_add_of_lt (show s.pc.toNat + 2 < 2 ^ 16 by omega)
  rw [u.fetchWord_inside (by omega), hupc, hread j (by omega), Nat.add_assoc, ← hnext,
    hread (j + 1) (by omega)]

end Sys2Proof.Machine
end

section
/-!
PROOFS. The sprite of DXYN (spec/41_display.md R121 to R123). `Draws A p q` says that `q` comes from `p` by
drawing a bit of 1 once on each pixel of `A`: those pixels are inverted, and the flag tells whether one of
them was 1. Draws on disjoint pixels compose, and the bits of a sprite land on different pixels, since 8
columns fit in 64 and 15 rows in 32.
-/

namespace Sys2Proof.Machine

/-- A framebuffer and collision flag after a bit of 1 was drawn once on each pixel of `A`. -/
structure Draws (A : Fin 32 → Fin 64 → Prop) (p q : Frame × Bool) : Prop where
  inverted : ∀ y x, A y x → Frame.pixel q.1 y x = !Frame.pixel p.1 y x
  kept : ∀ y x, ¬ A y x → Frame.pixel q.1 y x = Frame.pixel p.1 y x
  collision : q.2 = true ↔ p.2 = true ∨ ∃ y x, A y x ∧ Frame.pixel p.1 y x = true

section Draws

variable {A B : Fin 32 → Fin 64 → Prop} {p q r : Frame × Bool}

theorem Draws.congr (h : Draws A p q) (hAB : ∀ y x, A y x ↔ B y x) : Draws B p q := by
  have heq : A = B := funext fun y => funext fun x => propext (hAB y x)
  exact heq ▸ h

/-- No pixel drawn on. -/
theorem Draws.refl (p : Frame × Bool) : Draws (fun _ _ => False) p p where
  inverted _ _ h := h.elim
  kept _ _ _ := rfl
  collision := by simp

/-- Draws on disjoint pixels, one after the other. -/
theorem Draws.trans (hA : Draws A p q) (hB : Draws B q r) (hdisjoint : ∀ y x, A y x → ¬ B y x) :
    Draws (fun y x => A y x ∨ B y x) p r where
  inverted y x h := by
    obtain ha | hb := h
    · rw [hB.kept y x (hdisjoint y x ha), hA.inverted y x ha]
    · rw [hB.inverted y x hb, hA.kept y x fun ha => hdisjoint y x ha hb]
  kept y x h := by
    obtain ⟨ha, hb⟩ := not_or.mp h
    rw [hB.kept y x hb, hA.kept y x ha]
  collision := by
    have hB' : (∃ y x, B y x ∧ Frame.pixel q.1 y x = true) ↔ ∃ y x, B y x ∧ Frame.pixel p.1 y x = true :=
      exists₂_congr fun y x => and_congr_right fun hb => by rw [hA.kept y x fun ha => hdisjoint y x ha hb]
    rw [hB.collision, hA.collision, hB']
    simp only [or_and_right, exists_or, or_assoc]

/-- R121: one sprite bit draws on its pixel if it is 1, and on none if it is 0. -/
theorem draws_drawBit (y : Fin 32) (x : Fin 64) (bit : Bool) (p : Frame × Bool) :
    Draws (fun py px => bit = true ∧ py = y ∧ px = x) p (drawBit y x bit p) where
  inverted py px h := by
    obtain ⟨hbit, hy, hx⟩ := h
    simp [pixel_drawBit, hbit, hy, hx]
  kept py px h := by
    have hmiss : (bit && decide (py = y) && decide (px = x)) = false :=
      Bool.eq_false_iff.mpr (by simpa [and_assoc] using h)
    rw [pixel_drawBit, hmiss, Bool.xor_false]
  collision := by simp [collision_drawBit]

end Draws

/-! ### Columns, rows, sprite -/

/-- Some bit of value 1 among columns 0 to n-1 of sprite row `r` lands on the pixel. -/
def RowCovers (vx vy r : Nat) (row : Byte) (n : Nat) (py : Fin 32) (px : Fin 64) : Prop :=
  ∃ col < n, row.getLsbD (7 - col) = true ∧ py.val = (vy + r) % 32 ∧ px.val = (vx + col) % 64

/-- Some bit of value 1 among rows 0 to n-1 of a sprite lands on the pixel. -/
def RowsCover (byte : Nat → Byte) (vx vy n : Nat) (py : Fin 32) (px : Fin 64) : Prop :=
  ∃ r < n, RowCovers vx vy r (byte r) 8 py px

section Sprite

variable {vx vy : Nat} {p : Frame × Bool}

/-- R121: the columns of a row land on different pixels, so each is drawn on once. -/
theorem draws_drawColumns {r : Nat} {row : Byte} {n : Nat} (hn : n ≤ 8) :
    Draws (RowCovers vx vy r row n) p (drawColumns vx vy r row n p) := by
  induction n with
  | zero => exact (Draws.refl p).congr fun y x => by simp [RowCovers]
  | succ n ih =>
    refine ((ih (by omega)).trans (draws_drawBit _ _ _ _) ?disjoint).congr ?covers
    case disjoint =>
      rintro py px ⟨col, hcol, -, -, hpx⟩ ⟨-, -, hx⟩
      have hlast : px.val = (vx + n) % 64 := congrArg Fin.val hx
      omega
    case covers =>
      intro py px
      simp only [RowCovers, Nat.exists_lt_succ_right, Fin.ext_iff, Fin.val_ofNat]

/-- R121: the rows of a sprite land on different pixels, so each is drawn on once. -/
theorem draws_drawRows {byte : Nat → Byte} {n : Nat} (hn : n ≤ 32) :
    Draws (RowsCover byte vx vy n) p (drawRows byte vx vy n p) := by
  induction n with
  | zero => exact (Draws.refl p).congr fun y x => by simp [RowsCover]
  | succ n ih =>
    refine ((ih (by omega)).trans (draws_drawColumns (r := n) le_rfl) ?disjoint).congr ?covers
    case disjoint =>
      rintro py px ⟨r, hr, -, -, -, hpy, -⟩ ⟨-, -, -, hlast, -⟩
      omega
    case covers =>
      intro py px
      simp only [RowsCover, Nat.exists_lt_succ_right]

/-- R121: the sprite draws once on each pixel one of its bits of value 1 lands on. -/
theorem State.draws_drawSprite (s : State) (x y n : Nibble) :
    Draws (SpriteCovers s x y n) (s.fb, false) (s.drawSprite x y n) := by
  have hn : n.toNat < 2 ^ 4 := n.isLt
  rw [State.drawSprite_eq]
  refine (draws_drawRows (by omega)).congr fun py px => ?_
  simp only [RowsCover, RowCovers, SpriteCovers, exists_and_left]

end Sprite

/-! ### The execute phase -/

/-- R121: the execute phase of DXYN in range. -/
theorem exec_drw {x y n : Nibble} {s : State} (h : s.i.toNat + n.toNat ≤ 4096) :
    exec (.drw x y n) s = .next (completed (.drw x y n) s) :=
  exec_of_noFault (if_neg h.not_gt)

/-- Settles O32: the pixels and the collision by `State.draws_drawSprite`, and the rest is a write of the
framebuffer, a write of VF and an advance. -/
theorem drwXorsTheSprite : Obligations.DrwXorsTheSprite := by
  intro x y n s h
  have hdraws := s.draws_drawSprite x y n
  have hvf : (completed (.drw x y n) s).vreg 15 = flagByte (s.drawSprite x y n).2 :=
    State.vreg_setV_advance_same _ vf _
  refine ⟨encodedAs_drw x y n, _, exec_drw h, fun py px => ⟨hdraws.inverted py px, hdraws.kept py px⟩,
    ?collides, ?clear, rfl, rfl, fun r hr => State.vreg_setV_other _ _ hr, rfl, fun a => rfl, ⟨rfl, rfl⟩,
    ⟨rfl, rfl⟩, rfl, rfl, rfl, rfl, rfl, rfl⟩
  case collides =>
    intro hlit
    rw [hvf, hdraws.collision.mpr (.inr hlit)]
    rfl
  case clear =>
    intro hunlit
    have hnone : (s.drawSprite x y n).2 = false := by
      rw [Bool.eq_false_iff, ne_eq, hdraws.collision]
      rintro (hfalse | ⟨py, px, hcovers, hlit⟩)
      · exact nomatch hfalse
      · exact nomatch (hunlit py px hcovers).symm.trans hlit
    rw [hvf, hnone]
    rfl

/-- R123: a sprite covers the same pixels in a state with the same memory, I, parameters and coordinate
registers. -/
theorem spriteCovers_completed_drw {x y n : Nibble} {s : State}
    (hx : (completed (.drw x y n) s).vreg x = s.vreg x) (hy : (completed (.drw x y n) s).vreg y = s.vreg y)
    (py : Fin 32) (px : Fin 64) :
    SpriteCovers (completed (.drw x y n) s) x y n py px ↔ SpriteCovers s x y n py px := by
  have hcoordinate (r : Nibble) (hr : (completed (.drw x y n) s).vreg r = s.vreg r) :
      (completed (.drw x y n) s).coordinate r = s.coordinate r := by
    simp only [State.coordinate, State.readAgain, completed_params, hr]
  simp only [SpriteCovers, hcoordinate x hx, hcoordinate y hy]
  rfl

/-- Settles O33: both draws invert the same pixels (`spriteCovers_completed_drw`). -/
theorem drwTwiceRestoresTheScreen : Obligations.DrwTwiceRestoresTheScreen := by
  intro x y n s h
  refine ⟨_, _, exec_drw h, exec_drw h, fun hx hy py px => ?_⟩
  have hfirst := s.draws_drawSprite x y n
  have hsecond := (completed (.drw x y n) s).draws_drawSprite x y n
  by_cases hcovers : SpriteCovers s x y n py px
  · have hagain := (spriteCovers_completed_drw hx hy py px).mpr hcovers
    exact (hsecond.inverted py px hagain).trans
      ((congrArg (!·) (hfirst.inverted py px hcovers)).trans (Bool.not_not _))
  · have hnever := fun hagain => hcovers ((spriteCovers_completed_drw hx hy py px).mp hagain)
    exact (hsecond.kept py px hnever).trans (hfirst.kept py px hcovers)

end Sys2Proof.Machine
end
